-- ==== Sys2Proof/Word.lean ====
section
/-! DEFINITION. The word types of the machine: register and data words, bytes, instruction slots and the
program counter, and the index types of the two register banks (spec/00_scope.md R5, R14). -/

namespace Sys2Proof

/-- A machine word: the width of every general register and of every data-memory word (R5, R20, R72). -/
abbrev Word := BitVec 32

/-- A disk byte or a monitor pixel (R55, R57). -/
abbrev Byte := BitVec 8

/-- One slot of instruction memory: a 48-bit encoded instruction (R59, R100). -/
abbrev Slot := BitVec 48

/-- The 12-bit program counter, an instruction-memory slot index (R26). Its addition is modulo 4096. -/
abbrev Pc := BitVec 12

/-- A general register number, 0 to 15: the value of one 4-bit register field (R20, R103). -/
abbrev RegNum := Fin 16

end Sys2Proof
end

