-- ==== Sys2Proof/Syntax.lean ====
section
/-! DEFINITION. The instructions: one constructor per row of spec/opcode_table.json, each with the six
operand fields of the single 48-bit format (spec/30_encoding.md R100, R101, R104). Opcodes 22 to 255 have no
row; the decoder answers them by number (Decode.lean) and the machine gives them R204's effect. -/

namespace Sys2Proof

/-- The operand fields of the one format (R101). Every instruction has all of them, used or not (R106).
An immediate is the number its 12-bit field stands for, read as two's complement (R102). -/
structure Fields where
  /-- destination register number (a source for `sw`) -/
  rd : RegNum
  /-- first source register number -/
  rs : RegNum
  /-- second source register number -/
  rt : RegNum
  /-- third source register number -/
  rm : RegNum
  /-- first immediate, loaded into R1 -/
  imm1 : Int
  /-- second immediate, loaded into R2 -/
  imm2 : Int
  deriving DecidableEq, Repr

/-- The 22 instructions, in opcode order (R104). -/
inductive Instr where
  | add (f : Fields)
  | sub (f : Fields)
  | mac (f : Fields)
  | and (f : Fields)
  | or (f : Fields)
  | xor (f : Fields)
  | sll (f : Fields)
  | sra (f : Fields)
  | srl (f : Fields)
  | beq (f : Fields)
  | bne (f : Fields)
  | blt (f : Fields)
  | bgt (f : Fields)
  | ble (f : Fields)
  | bge (f : Fields)
  | jal (f : Fields)
  | lw (f : Fields)
  | sw (f : Fields)
  | reti (f : Fields)
  /-- the table's `in` (a reserved word of Lean, hence the underscore) -/
  | in_ (f : Fields)
  | out (f : Fields)
  | halt (f : Fields)
  deriving DecidableEq, Repr

/-- The operand fields of an instruction. -/
def Instr.fields : Instr → Fields
  | .add f | .sub f | .mac f | .and f | .or f | .xor f
  | .sll f | .sra f | .srl f
  | .beq f | .bne f | .blt f | .bgt f | .ble f | .bge f | .jal f
  | .lw f | .sw f | .reti f | .in_ f | .out f | .halt f => f

end Sys2Proof
end

