-- ==== Sys2Proof/WellFormed.lean ====
section
/-! DEFINITION. Which instruction terms stand for an encoded instruction: both immediates fit a 12-bit
two's complement field (spec/30_encoding.md R102, R108). The register numbers are in range by their type. -/

namespace Sys2Proof

/-- A number a 12-bit two's complement field can hold, -2048 to 2047 (R102). -/
def immInRange (v : Int) : Bool := decide (-2048 ≤ v) && decide (v ≤ 2047)

/-- Both immediates are in range. -/
def Fields.wellFormed (f : Fields) : Bool := immInRange f.imm1 && immInRange f.imm2

/-- An instruction is well-formed when its fields are; no combination of fields is illegal (R106). -/
def Instr.wellFormed (i : Instr) : Bool := i.fields.wellFormed

end Sys2Proof
end

