-- ==== Sys2Proof/Decode.lean ====
section
/-! DEFINITION. The decoder, total on every 48-bit word, and the encoder, both from the one table of
spec/30_encoding.md (R101, R104, R105); the names and the text form of an instruction (R108, R109). -/

namespace Sys2Proof

/-! ### Fields of a word (R101, R134) -/

/-- `inst[47:40]` -/
def opcodeOf (w : Slot) : BitVec 8 := w.extractLsb' 40 8

/-- A 4-bit register field whose lowest bit is bit `lo`. -/
def regField (w : Slot) (lo : Nat) : RegNum := (w.extractLsb' lo 4).toFin

/-- A 12-bit immediate field whose lowest bit is bit `lo`, read as two's complement (R102, decision D2). -/
def immField (w : Slot) (lo : Nat) : Int := (w.extractLsb' lo 12).toInt

/-- The six operand fields of a word; every word has them (R134). -/
def fieldsOf (w : Slot) : Fields where
  rd := regField w 36
  rs := regField w 32
  rt := regField w 28
  rm := regField w 24
  imm1 := immField w 12
  imm2 := immField w 0

/-! ### Decoding -/

/-- What the decoder answers: an instruction, or the number of an unsupported opcode (R105). -/
inductive Decoded where
  | instr (i : Instr)
  | unsupported (opcode : BitVec 8)
  deriving DecidableEq, Repr

/-- The opcode map of R104 on an opcode number and the operand fields. -/
def instrOf (opcode : Nat) (f : Fields) : Option Instr :=
  match opcode with
  | 0 => some (.add f)
  | 1 => some (.sub f)
  | 2 => some (.mac f)
  | 3 => some (.and f)
  | 4 => some (.or f)
  | 5 => some (.xor f)
  | 6 => some (.sll f)
  | 7 => some (.sra f)
  | 8 => some (.srl f)
  | 9 => some (.beq f)
  | 10 => some (.bne f)
  | 11 => some (.blt f)
  | 12 => some (.bgt f)
  | 13 => some (.ble f)
  | 14 => some (.bge f)
  | 15 => some (.jal f)
  | 16 => some (.lw f)
  | 17 => some (.sw f)
  | 18 => some (.reti f)
  | 19 => some (.in_ f)
  | 20 => some (.out f)
  | 21 => some (.halt f)
  | _ => none

/-- The decoder: every 48-bit word decodes (R134), to a row of the table or to an unsupported opcode (R105). -/
def decode (w : Slot) : Decoded :=
  match instrOf (opcodeOf w).toNat (fieldsOf w) with
  | some i => .instr i
  | none => .unsupported (opcodeOf w)

/-! ### Encoding -/

/-- The opcode number of an instruction (R104). -/
def Instr.opcode : Instr → Nat
  | .add _ => 0
  | .sub _ => 1
  | .mac _ => 2
  | .and _ => 3
  | .or _ => 4
  | .xor _ => 5
  | .sll _ => 6
  | .sra _ => 7
  | .srl _ => 8
  | .beq _ => 9
  | .bne _ => 10
  | .blt _ => 11
  | .bgt _ => 12
  | .ble _ => 13
  | .bge _ => 14
  | .jal _ => 15
  | .lw _ => 16
  | .sw _ => 17
  | .reti _ => 18
  | .in_ _ => 19
  | .out _ => 20
  | .halt _ => 21

/-- An immediate taken modulo 4096 (R101). -/
def immBits (v : Int) : Nat := (v % 4096).toNat

/-- R101's encoding function on an opcode number and the operand fields: opcode * 2^40 + rd * 2^36 + rs * 2^32 +
rt * 2^28 + rm * 2^24 + imm1 * 2^12 + imm2. -/
def encodeFields (opcode : Nat) (f : Fields) : Slot :=
  BitVec.ofNat 48 (opcode * 0x10000000000 + f.rd.val * 0x1000000000 + f.rs.val * 0x100000000
    + f.rt.val * 0x10000000 + f.rm.val * 0x1000000 + immBits f.imm1 * 0x1000 + immBits f.imm2)

/-- The one word of an instruction. -/
def encode (i : Instr) : Slot := encodeFields i.opcode i.fields

/-! ### The host's view of the decoder -/

/-- The slot a table word stands for: a 48-bit slot is one number, bit 0 least significant (R79, R101), and
bits at and above `nbits` are zero. A number that does not fit 48 bits is no slot of this machine. -/
def tableSlot (nbits w : Nat) : Option Slot :=
  if w % 2 ^ nbits < 2 ^ 48 then some (BitVec.ofNat 48 (w % 2 ^ nbits)) else none

/-- The instruction the decoder reads from an instruction whose bits are `w`. -/
def decodeTableWord (nbits w : Nat) : Option Instr :=
  match tableSlot nbits w with
  | some slot =>
    match decode slot with
    | .instr i => some i
    | .unsupported _ => none
  | none => none

/-! ### Assembly text and idioms (R108, R109) -/

/-- The mnemonic of an instruction (R104). -/
def Instr.mnemonic : Instr → String
  | .add _ => "add"
  | .sub _ => "sub"
  | .mac _ => "mac"
  | .and _ => "and"
  | .or _ => "or"
  | .xor _ => "xor"
  | .sll _ => "sll"
  | .sra _ => "sra"
  | .srl _ => "srl"
  | .beq _ => "beq"
  | .bne _ => "bne"
  | .blt _ => "blt"
  | .bgt _ => "bgt"
  | .ble _ => "ble"
  | .bge _ => "bge"
  | .jal _ => "jal"
  | .lw _ => "lw"
  | .sw _ => "sw"
  | .reti _ => "reti"
  | .in_ _ => "in"
  | .out _ => "out"
  | .halt _ => "halt"

/-- The canonical name of a register (R24). -/
def regName (r : RegNum) : String := "R" ++ toString r.val

/-- The informative alias of a register in R24's table, without its dollar sign (decision D4). -/
def regAlias (r : RegNum) : String :=
  match r.val with
  | 0 => "zero"
  | 1 => "imm1"
  | 2 => "imm2"
  | 3 => "v0"
  | 4 => "a0"
  | 5 => "a1"
  | 6 => "a2"
  | 7 => "t0"
  | 8 => "t1"
  | 9 => "t2"
  | 10 => "s0"
  | 11 => "s1"
  | 12 => "s2"
  | 13 => "gp"
  | 14 => "sp"
  | _ => "ra"

/-- The spec's assembly line, both immediates written in decimal: `mnemonic Rd, Rs, Rt, Rm, imm1, imm2` (R108). -/
def Instr.asm (i : Instr) : String :=
  i.mnemonic ++ " " ++ regName i.fields.rd ++ ", " ++ regName i.fields.rs ++ ", " ++ regName i.fields.rt
    ++ ", " ++ regName i.fields.rm ++ ", " ++ toString i.fields.imm1 ++ ", " ++ toString i.fields.imm2

/-- The canonical no-operation (R107, R109). -/
def idiomNop : Instr := .add ⟨0, 0, 0, 0, 0, 0⟩
/-- load immediate: Rd = imm (R109) -/
def idiomLoadImm (rd : RegNum) (imm : Int) : Instr := .add ⟨rd, 0, 1, 0, imm, 0⟩
/-- move: Rd = Rs (R109) -/
def idiomMove (rd rs : RegNum) : Instr := .add ⟨rd, rs, 0, 0, 0, 0⟩
/-- unconditional jump to a constant (R109) -/
def idiomJump (target : Int) : Instr := .beq ⟨0, 0, 0, 2, 0, target⟩
/-- call: R15 = pc + 1, pc = target (R109) -/
def idiomCall (target : Int) : Instr := .jal ⟨15, 0, 0, 2, 0, target⟩
/-- return: pc = R15[11:0] (R109) -/
def idiomReturn : Instr := .beq ⟨0, 0, 0, 15, 0, 0⟩
/-- read I/O slot n (R109) -/
def idiomReadIo (rd : RegNum) (n : Int) : Instr := .in_ ⟨rd, 0, 1, 0, n, 0⟩
/-- write the constant c to I/O slot n (R109) -/
def idiomWriteIoConst (n c : Int) : Instr := .out ⟨0, 0, 1, 2, n, c⟩
/-- write register Rm to I/O slot n (R109) -/
def idiomWriteIo (n : Int) (rm : RegNum) : Instr := .out ⟨0, 0, 1, rm, n, 0⟩

end Sys2Proof
end

