-- ==== Sys2Proof/Config.lean ====
section
/-! DEFINITION. The configuration fields of the machine: the parameters the spec states or leaves as named
parameters with a default (spec/00_scope.md R5 to R11, spec/93_implementation_defined.md U8, U9, U15 to U17).
The values this machine has are `Sys2Proof.Machine.config` in Machine/Params.lean. -/

namespace Sys2Proof

/-- The three shifts (spec/42_shift.md). -/
inductive ShiftOp where
  /-- shift left logical, R160 -/
  | sll
  /-- shift right arithmetic, R161 -/
  | sra
  /-- shift right logical, R162 -/
  | srl
  deriving DecidableEq, Repr

/-- The named parameter JAL_ALIAS_ORDER of decision D15: what `jal` with rd = rm jumps to. -/
inductive JalAliasOrder where
  /-- the target is the old `x[rm]` (R138, R177): the default -/
  | latchFirst
  /-- the target is read after the link was written (93 U9): the alternative -/
  | writeFirst
  deriving DecidableEq, Repr

/-- The configuration fields. -/
structure Config where
  /-- DMEM_WORDS, the number of 32-bit words of data memory (R6) -/
  dmemWords : Nat
  /-- DISK_SECTORS (R5) -/
  diskSectors : Nat
  /-- SECTOR_BYTES (R5) -/
  sectorBytes : Nat
  /-- DISK_LATENCY in cycles (R5) -/
  diskLatency : Nat
  /-- MON_WIDTH in pixels (R7) -/
  monWidth : Nat
  /-- MON_HEIGHT in pixels (R7) -/
  monHeight : Nat
  /-- EXT_CYCLE_BASE: schedule cycle-number minus cycle ordinal (R11, R58) -/
  extCycleBase : Nat
  /-- SHIFT_OVER: the result of a shift of the first word by an amount word of 32 or more (D12) -/
  shiftOver : ShiftOp → Word → Word → Word
  /-- JAL_ALIAS_ORDER (D15) -/
  jalAliasOrder : JalAliasOrder

end Sys2Proof
end

