-- ==== Sys2Proof/Machine/Memory.lean ====
section
/-! DEFINITION. One address space: a list of (address, unit) pairs in canonical form, addresses strictly rising
and no entry equal to what an unlisted address reads as. The unit is the space's own: a 32-bit word for data
memory, a 48-bit slot for instruction memory, a byte for the disk and the monitor (spec/20_memory.md R70). -/

namespace Sys2Proof.Machine

/-- An address space whose units have `w` bits. With `w = 8` an entry is a `Host.Cell`. -/
abbrev Memory (w : Nat) := List (Nat × BitVec w)

/-- What an address that is not listed reads as: a location the host did not supply holds zero (R12, R280). -/
def Memory.unlisted (w : Nat) : BitVec w := 0

/-- The unit at an address. -/
def Memory.read {w : Nat} : Memory w → Nat → BitVec w
  | [], _ => Memory.unlisted w
  | (k, x) :: rest, a => if k = a then x else Memory.read rest a

/-- Forget an address. -/
def Memory.erase {w : Nat} : Memory w → Nat → Memory w
  | [], _ => []
  | (k, x) :: rest, a => if k = a then Memory.erase rest a else (k, x) :: Memory.erase rest a

/-- List a unit at its place among rising addresses. -/
def Memory.insert {w : Nat} : Memory w → Nat → BitVec w → Memory w
  | [], a, v => [(a, v)]
  | (k, x) :: rest, a, v =>
    if a < k then (a, v) :: (k, x) :: rest
    else if k = a then (a, v) :: rest
    else (k, x) :: Memory.insert rest a v

/-- Write one unit. Writing what an unlisted address reads as removes the entry, so that equal contents are
equal lists. -/
def Memory.write {w : Nat} (m : Memory w) (a : Nat) (v : BitVec w) : Memory w :=
  if v = Memory.unlisted w then m.erase a else m.insert a v

/-- Write a list of units at consecutive addresses from `a` on (a launch image, R12). -/
def Memory.writeAll {w : Nat} : Memory w → Nat → List (BitVec w) → Memory w
  | m, _, [] => m
  | m, a, v :: rest => Memory.writeAll (m.write a v) (a + 1) rest

/-- Canonical form with every listed address in `lo` to `hi - 1`. -/
def Memory.wfFrom {w : Nat} (hi : Nat) : Nat → Memory w → Bool
  | _, [] => true
  | lo, (a, v) :: rest =>
    decide (lo ≤ a) && decide (a < hi) && (v != Memory.unlisted w) && Memory.wfFrom hi (a + 1) rest

/-- The canonical form of a space of `size` units. -/
def Memory.wf {w : Nat} (size : Nat) (m : Memory w) : Bool := Memory.wfFrom size 0 m

end Sys2Proof.Machine
end

