-- ==== Sys2Proof/Machine/State.lean ====
section
/-! DEFINITION. The state of the machine as plain data (spec/10_state.md, the tuple before R20, and the launch
parameters R11, R12), the outcomes a step could stop with, and the state after reset
(spec/70_reset_and_hazards.md R280). -/

namespace Sys2Proof.Machine

/-- Faults: there are none. "No instruction has a trap outcome; the step function has no fault arm" (R221), so
this type has no constructor. Nobody raises one; nothing is lost by it (safe). -/
inductive Fault where
  deriving DecidableEq, Repr

/-- Refusals. -/
inductive Refusal where
  /-- An instruction without a meaning in this model, by its mnemonic. Only a refused arm of `exec` could raise
  it, and no arm does (safe: a refused instruction proves nothing). -/
  | notModelled (mnemonic : String)
  deriving DecidableEq, Repr

/-- The 23 slots of the I/O register bank, in the order of R30's table. Their indices and widths are
`IoReg.index` and `IoReg.width` in Machine/IoBank.lean. -/
inductive IoReg where
  | irq0enable
  | irq1enable
  | irq2enable
  | irq0status
  | irq1status
  | irq2status
  | irqhandler
  | irqreturn
  | clks
  | leds
  | display7seg
  | timerenable
  | timercurrent
  | timermax
  | diskcmd
  | disksector
  | diskbuffer
  | diskstatus
  | reserved18
  | reserved19
  | monitoraddr
  | monitordata
  | monitorcmd
  deriving DecidableEq, Repr

/-- The records of the diagnostic port (R220). They are outputs; no rule reads one back (R63). -/
inductive Diagnostic where
  /-- data-memory word index out of range: `lw`, `sw`, disk transfer (R76, R77) -/
  | memAddr (a : Word)
  /-- I/O register index out of range: `in`, `out` (R80, R81) -/
  | ioIndex (i : Word)
  /-- sector number out of range: disk controller at dispatch (R245) -/
  | diskSector (s : Word)
  /-- invalid disk command while READY (R242) -/
  | diskCmd (c : Word)
  /-- monitor address outside the buffer (R260) -/
  | monAddr (m : Word)
  /-- unsupported opcode (R204) -/
  | opcode (op : BitVec 8)
  deriving DecidableEq, Repr

/-- One record of the trace port: pc, instruction word and all sixteen register values (R136). -/
structure TraceRecord where
  pc : Pc
  inst : Slot
  x : Vector Word 16
  deriving DecidableEq, Repr

/-- The state. -/
structure State where
  /-- storage of `x[0..15]` (R20); read and written through `State.reg` and the operations beside it -/
  regs : Vector Word 16
  /-- program counter (R26) -/
  pc : Pc
  /-- ISR flag (R53) -/
  isr : Bool
  /-- halted flag (R54) -/
  halted : Bool
  /-- the I/O register bank, slot i at position i (R29, R30) -/
  io : Vector Word 23
  /-- `disk_remaining`, the hidden busy counter (R56) -/
  diskRemaining : Nat
  /-- data memory by word index (R60, R72) -/
  dmem : Memory 32
  /-- disk: byte b of sector s at s * 512 + b (R55) -/
  disk : Memory 8
  /-- monitor buffer: pixel (r, c) at r * MON_WIDTH + c (R57) -/
  mon : Memory 8
  /-- instruction memory by slot index, read-only after load (R59, R71) -/
  imem : Memory 48
  /-- External Interrupt Schedule: (cycle-number, pending-flag), read-only (R58) -/
  extSched : List (Nat × Bool)
  /-- cycle ordinal k: cycles completed since reset (R16, R280) -/
  cycle : Nat
  /-- history of the trace port, newest first (R63, R136) -/
  trace : List TraceRecord
  /-- history of the diagnostic port, newest first (R63, R220) -/
  diags : List Diagnostic
  deriving DecidableEq, Repr

/-- The state after reset with no image supplied (R280): everything zero, nothing listed in any memory, the
external line never asserted. -/
def State.reset : State where
  regs := Vector.replicate 16 0
  pc := 0
  isr := false
  halted := false
  io := Vector.replicate 23 0
  diskRemaining := 0
  dmem := []
  disk := []
  mon := []
  imem := []
  extSched := []
  cycle := 0
  trace := []
  diags := []

end Sys2Proof.Machine
end

