-- ==== Sys2Proof/Machine/IoBank.lean ====
section
/-! DEFINITION. The table of the I/O register bank: the index and the width of each slot, and the mask of a
width (spec/10_state.md R29, R30; decisions D7, D8, D9). -/

namespace Sys2Proof.Machine

/-- The index column of R30's table. -/
def IoReg.index : IoReg → Fin 23
  | .irq0enable => 0
  | .irq1enable => 1
  | .irq2enable => 2
  | .irq0status => 3
  | .irq1status => 4
  | .irq2status => 5
  | .irqhandler => 6
  | .irqreturn => 7
  | .clks => 8
  | .leds => 9
  | .display7seg => 10
  | .timerenable => 11
  | .timercurrent => 12
  | .timermax => 13
  | .diskcmd => 14
  | .disksector => 15
  | .diskbuffer => 16
  | .diskstatus => 17
  | .reserved18 => 18
  | .reserved19 => 19
  | .monitoraddr => 20
  | .monitordata => 21
  | .monitorcmd => 22

/-- The slot of an index; none from 23 on. -/
def IoReg.ofIndex (n : Nat) : Option IoReg :=
  match n with
  | 0 => some .irq0enable
  | 1 => some .irq1enable
  | 2 => some .irq2enable
  | 3 => some .irq0status
  | 4 => some .irq1status
  | 5 => some .irq2status
  | 6 => some .irqhandler
  | 7 => some .irqreturn
  | 8 => some .clks
  | 9 => some .leds
  | 10 => some .display7seg
  | 11 => some .timerenable
  | 12 => some .timercurrent
  | 13 => some .timermax
  | 14 => some .diskcmd
  | 15 => some .disksector
  | 16 => some .diskbuffer
  | 17 => some .diskstatus
  | 18 => some .reserved18
  | 19 => some .reserved19
  | 20 => some .monitoraddr
  | 21 => some .monitordata
  | 22 => some .monitorcmd
  | _ => none

/-- The width column of R30's table, in bits. -/
def IoReg.width : IoReg → Nat
  | .irq0enable => 1
  | .irq1enable => 1
  | .irq2enable => 1
  | .irq0status => 1
  | .irq1status => 1
  | .irq2status => 1
  | .irqhandler => 12
  | .irqreturn => 12
  | .clks => 32
  | .leds => 32
  | .display7seg => 32
  | .timerenable => 1
  | .timercurrent => 32
  | .timermax => 32
  | .diskcmd => 2
  | .disksector => 7
  | .diskbuffer => 12
  | .diskstatus => 1
  | .reserved18 => 0
  | .reserved19 => 0
  | .monitoraddr => 16
  | .monitordata => 8
  | .monitorcmd => 1

/-- `mask(w)` = 2^w - 1 (R14). -/
def maskOf (w : Nat) : Word := BitVec.ofNat 32 (2 ^ w - 1)

end Sys2Proof.Machine
end

