-- ==== Sys2Proof/Machine/Params.lean ====
section
/-! DEFINITION. The configuration this machine has: the values the spec states (R5) and the defaults of its
named parameters (R6, R7, R11, D12, D15). -/

namespace Sys2Proof.Machine

/-- A shift of `a` by `n` places: R160 zeros in at the right, R161 sign copies in at the left, R162 zeros in at
the left. -/
def shiftValue (op : ShiftOp) (a : Word) (n : Nat) : Word :=
  match op with
  | .sll => a <<< n
  | .sra => a.sshiftRight n
  | .srl => a >>> n

/-- `B[4:0]`, the low five bits of the amount word (R160 to R162). -/
def lowFive (b : Word) : Nat := (b.extractLsb' 0 5).toNat

/-- The configuration. -/
def config : Config where
  dmemWords := 4096
  diskSectors := 128
  sectorBytes := 512
  diskLatency := 1024
  monWidth := 256
  monHeight := 256
  extCycleBase := 0
  shiftOver := fun op a b => shiftValue op a (lowFive b)
  jalAliasOrder := .latchFirst

end Sys2Proof.Machine
end

