-- ==== Sys2Proof/Machine/Ops.lean ====
section
/-! DEFINITION. The named operations over the state that meanings and devices share: one setter per field, the
register file, the program counter, the I/O bus, data memory, disk and monitor units, the two outputs, taking an
interrupt and returning from one. -/

namespace Sys2Proof.Machine

/-! ### One setter per field -/

def State.setRegs (s : State) (v : Vector Word 16) : State := { s with regs := v }
def State.setPc (s : State) (v : Pc) : State := { s with pc := v }
def State.setIsr (s : State) (v : Bool) : State := { s with isr := v }
def State.setHalted (s : State) (v : Bool) : State := { s with halted := v }
def State.setIo (s : State) (v : Vector Word 23) : State := { s with io := v }
def State.setDiskRemaining (s : State) (v : Nat) : State := { s with diskRemaining := v }
def State.setDmem (s : State) (v : Memory 32) : State := { s with dmem := v }
def State.setDisk (s : State) (v : Memory 8) : State := { s with disk := v }
def State.setMon (s : State) (v : Memory 8) : State := { s with mon := v }
def State.setImem (s : State) (v : Memory 48) : State := { s with imem := v }
def State.setExtSched (s : State) (v : List (Nat × Bool)) : State := { s with extSched := v }
def State.setCycle (s : State) (v : Nat) : State := { s with cycle := v }

/-- Emit one record on the diagnostic port (R15, R220): nothing else changes. -/
def State.report (s : State) (d : Diagnostic) : State := { s with diags := d :: s.diags }

/-- Emit one record on the trace port (R136): nothing else changes. -/
def State.emit (s : State) (r : TraceRecord) : State := { s with trace := r :: s.trace }

/-- The code column of R220's table. -/
def diagnosticCode : Diagnostic → Nat
  | .memAddr _ => 1
  | .ioIndex _ => 2
  | .diskSector _ => 3
  | .diskCmd _ => 4
  | .monAddr _ => 5
  | .opcode _ => 6

/-! ### The register file (R20 to R23) -/

/-- `x[r]`: register 0 reads zero (R21). -/
def State.reg (s : State) (r : RegNum) : Word := if r = 0 then 0 else s.regs[r.val]

/-- Which registers the execute stage writes: not R0 (R21), and not the immediate registers R1 and R2 (R23). -/
def writableReg (r : RegNum) : Bool := decide (3 ≤ r.val)

/-- `x[r] <- v` by the execute stage, discarded for R0, R1 and R2. -/
def State.writeReg (s : State) (r : RegNum) (v : Word) : State :=
  if writableReg r then s.setRegs (s.regs.set r.val v) else s

/-- `sext_32` of an immediate (R15, R102), the immediate given as the number its field stands for. -/
def sext32 (imm : Int) : Word := BitVec.ofInt 32 imm

/-- Step 8b: the decoder writes R1 and R2 (R22, R135). -/
def State.loadImmediates (s : State) (f : Fields) : State :=
  s.setRegs ((s.regs.set 1 (sext32 f.imm1)).set 2 (sext32 f.imm2))

/-- The sixteen register values as they read, for the trace port (R136). -/
def State.snapshot (s : State) : Vector Word 16 := s.regs.set 0 0

/-! ### The program counter (R26, R27) -/

/-- `(P + 1) mod 4096` (R139, decision D14). -/
def nextPc (p : Pc) : Pc := p + 1

/-- `v[11:0]` (R26, R170). -/
def low12 (v : Word) : Pc := v.setWidth 12

/-- The default advance of the program counter (R139). -/
def State.advance (s : State) : State := s.setPc (nextPc s.pc)

/-! ### The I/O register bank and its bus (R29, R80, R81) -/

/-- `io[i]`: the stored value of a slot, direct access by a device (R15). -/
def State.ioAt (s : State) (r : IoReg) : Word := s.io[r.index.val]

/-- `io[i] <- v` by a device, `v` already inside the slot's width (R29, decision D30). -/
def State.ioPut (s : State) (r : IoReg) (v : Word) : State := s.setIo (s.io.set r.index.val v)

/-- `IoRead(i)` (R80). -/
def State.ioRead (s : State) (i : Word) : Word × State :=
  match IoReg.ofIndex i.toNat with
  | some r => (s.ioAt r, s)
  | none => (0, s.report (.ioIndex i))

/-- `IoWrite(i, v)` (R81): masked to the slot's width, no write and no report for a slot of width 0 (R49). -/
def State.ioWrite (s : State) (i v : Word) : State :=
  match IoReg.ofIndex i.toNat with
  | some r => if r.width = 0 then s else s.ioPut r (v &&& maskOf r.width)
  | none => s.report (.ioIndex i)

/-! ### Data memory (R76, R77) -/

/-- `unsigned(a) < DMEM_WORDS`. -/
def dmemValid (a : Word) : Bool := decide (a.toNat < config.dmemWords)

/-- `dmem[a]` of an index in range. -/
def State.dmemAt (s : State) (a : Word) : Word := s.dmem.read a.toNat

/-- `MemRead(a, 32)` (R76). -/
def State.memRead (s : State) (a : Word) : Word × State :=
  if dmemValid a then (s.dmemAt a, s) else (0, s.report (.memAddr a))

/-- `MemWrite(a, 32, v)` (R77). -/
def State.memWrite (s : State) (a v : Word) : State :=
  if dmemValid a then s.setDmem (s.dmem.write a.toNat v) else s.report (.memAddr a)

/-! ### Disk and monitor units (R55, R57) -/

/-- The disk address of byte `b` of sector `sec`. -/
def diskIndex (sec b : Nat) : Nat := sec * config.sectorBytes + b

/-- `disk[sec][b]` -/
def State.diskByte (s : State) (sec b : Nat) : Byte := s.disk.read (diskIndex sec b)

/-- `disk[sec][b] <- v` -/
def State.putDiskByte (s : State) (sec b : Nat) (v : Byte) : State :=
  s.setDisk (s.disk.write (diskIndex sec b) v)

/-- The buffer address of pixel `(r, c)`. -/
def pixelIndex (r c : Nat) : Nat := r * config.monWidth + c

/-- `mon[r][c]` -/
def State.pixel (s : State) (r c : Nat) : Byte := s.mon.read (pixelIndex r c)

/-- `mon[r][c] <- v` -/
def State.putPixel (s : State) (r c : Nat) (v : Byte) : State := s.setMon (s.mon.write (pixelIndex r c) v)

/-! ### Interrupts: entry and return (R250, R200) -/

/-- An enabled line is pending: `(io[0] & io[3]) | (io[1] & io[4]) | (io[2] & io[5])` is 1 (R250). -/
def State.irqPending (s : State) : Bool :=
  ((s.ioAt .irq0enable &&& s.ioAt .irq0status) ||| (s.ioAt .irq1enable &&& s.ioAt .irq1status)
    ||| (s.ioAt .irq2enable &&& s.ioAt .irq2status)) == 1

/-- Taking an interrupt (R250): irqreturn gets the pc of the instruction not yet fetched, pc gets irqhandler, the
ISR flag is set. Nothing else is saved or changed. -/
def State.takeInterrupt (s : State) : State :=
  ((s.ioPut .irqreturn (s.pc.setWidth 32)).setPc (low12 (s.ioAt .irqhandler))).setIsr true

/-- Returning from an interrupt (R200, R254): pc from irqreturn, the ISR flag cleared, nothing else. -/
def State.returnFromInterrupt (s : State) : State := (s.setPc (low12 (s.ioAt .irqreturn))).setIsr false

end Sys2Proof.Machine
end

