-- ==== Sys2Proof/Machine/Devices.lean ====
section
/-! DEFINITION. Steps 1 to 6 of a cycle (spec/40_cycle_pipeline.md R131): clock, timer, external line, disk
controller, interrupt dispatcher, monitor (spec/60_exceptions.md). Each sees every effect of the earlier ones. -/

namespace Sys2Proof.Machine

/-- Step 1, clock (R132). -/
def tickClock (s : State) : State := s.ioPut .clks (s.ioAt .clks + 1)

/-- Step 2, timer: compare first, then count (R231). -/
def tickTimer (s : State) : State :=
  if s.ioAt .timerenable = 1 then
    if s.ioAt .timercurrent = s.ioAt .timermax then (s.ioPut .irq0status 1).ioPut .timercurrent 0
    else s.ioPut .timercurrent (s.ioAt .timercurrent + 1)
  else s

/-- `ext_irq(k)`: the schedule has an entry for k + EXT_CYCLE_BASE whose pending-flag is set (R11, R58). -/
def extIrq (sched : List (Nat × Bool)) (k : Nat) : Bool :=
  sched.any fun e => e.1 == k + config.extCycleBase && e.2

/-- Step 3, external line sample (R235). -/
def sampleExternal (s : State) : State :=
  if extIrq s.extSched s.cycle then s.ioPut .irq2status 1 else s

/-! ### Step 4, the disk controller (R240 to R245) -/

/-- The data-memory index of byte `b` of a transfer: `buf + b / 4`, no wrap into range (R92). -/
def transferIndex (buf : Word) (b : Nat) : Word := buf + BitVec.ofNat 32 (b / 4)

/-- The place of byte `b` in its word: byte 0 of each four is the most significant (R79, R243). -/
def byteShift (b : Nat) : Nat := 8 * (3 - b % 4)

/-- One byte of `ReadSector`, disk to memory (R243). -/
def readSectorByte (sec : Nat) (buf : Word) (s : State) (b : Nat) : State :=
  let r := s.memRead (transferIndex buf b)
  r.2.memWrite (transferIndex buf b)
    ((r.1 &&& ~~~((0xFF : Word) <<< byteShift b)) ||| ((s.diskByte sec b).setWidth 32 <<< byteShift b))

/-- One byte of `WriteSector`, memory to disk (R244). -/
def writeSectorByte (sec : Nat) (buf : Word) (s : State) (b : Nat) : State :=
  let r := s.memRead (transferIndex buf b)
  r.2.putDiskByte sec b ((r.1 >>> byteShift b).setWidth 8)

/-- `ReadSector(s, buf)`: the bytes in ascending order (R243). -/
def readSector (sec : Nat) (buf : Word) (s : State) : State :=
  (List.range config.sectorBytes).foldl (readSectorByte sec buf) s

/-- `WriteSector(s, buf)` (R244). -/
def writeSector (sec : Nat) (buf : Word) (s : State) : State :=
  (List.range config.sectorBytes).foldl (writeSectorByte sec buf) s

/-- The BUSY branch (R241). The command register is not looked at. -/
def tickDiskBusy (s : State) : State :=
  let s' := s.setDiskRemaining (s.diskRemaining - 1)
  if s'.diskRemaining = 0 then ((s'.ioPut .diskcmd 0).ioPut .diskstatus 0).ioPut .irq1status 1 else s'

/-- A valid command is accepted: the transfer, then BUSY for DISK_LATENCY cycles; a sector number out of range
drops the operation (R242, R245). -/
def acceptDisk (s : State) (transfer : Nat → Word → State → State) : State :=
  if (s.ioAt .disksector).toNat < config.diskSectors then
    ((transfer (s.ioAt .disksector).toNat (s.ioAt .diskbuffer) s).ioPut .diskstatus 1).setDiskRemaining config.diskLatency
  else s.report (.diskSector (s.ioAt .disksector))

/-- The READY branch (R242). -/
def tickDiskReady (s : State) : State :=
  if s.ioAt .diskcmd = 0 then s
  else if s.ioAt .diskcmd = 1 then acceptDisk s readSector
  else if s.ioAt .diskcmd = 2 then acceptDisk s writeSector
  else s.report (.diskCmd (s.ioAt .diskcmd))

/-- Step 4: BUSY exactly while the hidden counter is positive (R240, decision D21). -/
def tickDisk (s : State) : State := if 0 < s.diskRemaining then tickDiskBusy s else tickDiskReady s

/-! ### Steps 5 and 6 -/

/-- Step 5, interrupt dispatch: an enabled line pending and not inside a handler (R250, R252). -/
def dispatchInterrupt (s : State) : State := if s.irqPending && !s.isr then s.takeInterrupt else s

/-- The pixel write of step 6, rejected with a diagnostic outside the buffer (R260). -/
def writePixel (s : State) : State :=
  let addr := (s.ioAt .monitoraddr).toNat
  if addr / config.monWidth < config.monHeight ∧ addr % config.monWidth < config.monWidth then
    s.putPixel (addr / config.monWidth) (addr % config.monWidth) ((s.ioAt .monitordata).setWidth 8)
  else s.report (.monAddr (s.ioAt .monitoraddr))

/-- Step 6, monitor service: the command is consumed whether or not the pixel was written (R260). -/
def serviceMonitor (s : State) : State :=
  if s.ioAt .monitorcmd = 1 then (writePixel s).ioPut .monitorcmd 0 else s

/-- Steps 1 to 6 in order (R131). -/
def devicePhase (s : State) : State :=
  serviceMonitor (dispatchInterrupt (tickDisk (sampleExternal (tickTimer (tickClock s)))))

end Sys2Proof.Machine
end

