-- ==== Sys2Proof/Machine/Cycle.lean ====
section
/-! DEFINITION. Steps 7 to 9 of a cycle: fetch, decode with the immediate load, trace record
(spec/40_cycle_pipeline.md R133 to R136); the count of cycles; and how a program is placed from outside. -/

namespace Sys2Proof.Machine

/-- Step 7: `inst <- imem[pc]`, which cannot fail (R71, R133). -/
def fetch (s : State) : Slot := s.imem.read s.pc.toNat

/-- Steps 8b and 9: the immediates of the fetched word are loaded for every word (R135), then the trace record is
emitted (R136). -/
def decodePhase (w : Slot) (s : State) : State :=
  let loaded := s.loadImmediates (fieldsOf w)
  loaded.emit ⟨loaded.pc, w, loaded.snapshot⟩

/-- Cycles are counted by their ordinal (R16). Only step 3 reads it, so where in the cycle after step 3 it goes up
is not observable. -/
def countCycle (s : State) : State := s.setCycle (s.cycle + 1)

/-- The state a cycle has when step 7 fetches. -/
def beforeFetch (s : State) : State := countCycle (devicePhase s)

/-- The word step 7 of the next cycle fetches. -/
def fetchedWord (s : State) : Slot := fetch (beforeFetch s)

/-- The state in which step 10 of the next cycle executes (R137). -/
def executeState (s : State) : State := decodePhase (fetchedWord s) (beforeFetch s)

/-- `s` with `w` at the slot the next cycle fetches, after its interrupt dispatch, and running. -/
def placeWord (s : State) (w : Slot) : State :=
  (s.setImem (s.imem.write (beforeFetch s).pc.toNat w)).setHalted false

/-- The launch (R12, R13, R282): reset with the images at index 0 upwards, what is not supplied zero, entries past
the end of a space dropped, and the external schedule. -/
def State.launch (imem : List Slot) (dmem : List Word) (disk : List Byte) (sched : List (Nat × Bool)) : State :=
  (((State.reset.setImem (Memory.writeAll [] 0 (imem.take 4096))).setDmem
    (Memory.writeAll [] 0 (dmem.take config.dmemWords))).setDisk
    (Memory.writeAll [] 0 (disk.take (config.diskSectors * config.sectorBytes)))).setExtSched sched

end Sys2Proof.Machine
end

