-- ==== Sys2Proof/Machine/Operands.lean ====
section
/-! DEFINITION. The operand forms: the latched operands of the execute stage (spec/40_cycle_pipeline.md R138), the
effective address and I/O index (spec/20_memory.md R78, D18), the jump target and the shift amount. -/

namespace Sys2Proof.Machine

/-- `A`, `B`, `C`, `D` and `P`, read at the start of step 10 before any write (R138). -/
structure Operands where
  a : Word
  b : Word
  c : Word
  d : Word
  p : Pc
  deriving DecidableEq, Repr

/-- The operand latch: `A = x[rs]`, `B = x[rt]`, `C = x[rm]`, `D = x[rd]`, `P = pc` (R138). A field naming R1 or
R2 reads the instruction's own immediate, which step 8b has loaded (R103). -/
def latch (f : Fields) (s : State) : Operands where
  a := s.reg f.rs
  b := s.reg f.rt
  c := s.reg f.rm
  d := s.reg f.rd
  p := s.pc

/-- `(A + B) mod 2^32`: the word index of `lw` and `sw` (R78), the slot index of `in` and `out` (R201, R202). -/
def effectiveIndex (o : Operands) : Word := o.a + o.b

/-- `C[11:0]`, the target of branches and `jal` (R170, R177). -/
def target (o : Operands) : Pc := low12 o.c

/-- The result of a shift (R160 to R162): by `B` when `B < 32`, which is the only reading of the formulas, and by
the configuration field SHIFT_OVER otherwise, whose default is the low five bits (decision D12). -/
def shiftResult (op : ShiftOp) (o : Operands) : Word :=
  if o.b.toNat < 32 then shiftValue op o.a o.b.toNat else config.shiftOver op o.a o.b

/-- The end of an instruction that writes `x[rd]` and advances pc (R139). -/
def State.writeAndAdvance (s : State) (rd : RegNum) (v : Word) : State := (s.writeReg rd v).advance

end Sys2Proof.Machine
end

