-- ==== Sys2Proof/Machine/Arith.lean ====
section
/-! DEFINITION. Opcodes 0 to 5 (spec/41_arith_logic.md): three 32-bit sources, modulo 2^32, no flag and no
diagnostic (R156). -/

namespace Sys2Proof.Machine

/-- `add`: x[rd] <- A + B + C (R150). -/
def execAdd (f : Fields) (s : State) : Host.Outcome State Fault Refusal :=
  let o := latch f s
  .next (s.writeAndAdvance f.rd (o.a + o.b + o.c))

/-- `sub`: x[rd] <- A - B - C (R151). -/
def execSub (f : Fields) (s : State) : Host.Outcome State Fault Refusal :=
  let o := latch f s
  .next (s.writeAndAdvance f.rd (o.a - o.b - o.c))

/-- `mac`: x[rd] <- A * B + C, low 32 bits (R152). -/
def execMac (f : Fields) (s : State) : Host.Outcome State Fault Refusal :=
  let o := latch f s
  .next (s.writeAndAdvance f.rd (o.a * o.b + o.c))

/-- `and`: x[rd] <- A & B & C (R153). -/
def execAnd (f : Fields) (s : State) : Host.Outcome State Fault Refusal :=
  let o := latch f s
  .next (s.writeAndAdvance f.rd (o.a &&& o.b &&& o.c))

/-- `or`: x[rd] <- A | B | C (R154). -/
def execOr (f : Fields) (s : State) : Host.Outcome State Fault Refusal :=
  let o := latch f s
  .next (s.writeAndAdvance f.rd (o.a ||| o.b ||| o.c))

/-- `xor`: x[rd] <- A ^ B ^ C (R155). -/
def execXor (f : Fields) (s : State) : Host.Outcome State Fault Refusal :=
  let o := latch f s
  .next (s.writeAndAdvance f.rd (o.a ^^^ o.b ^^^ o.c))

end Sys2Proof.Machine
end

