-- ==== Sys2Proof/Machine/Flags.lean ====
section
/-! DEFINITION. The hardware has no condition codes and no flag is computed by any instruction
(spec/10_state.md R28): branches compare two registers directly. Here stand the six conditions
(spec/43_branch_jump.md R171 to R176) and what a branch does with one (R170). -/

namespace Sys2Proof.Machine

/-- `beq`: all 32 bits equal (R171). -/
def condEq (o : Operands) : Bool := o.a == o.b
/-- `bne` (R172). -/
def condNe (o : Operands) : Bool := !(o.a == o.b)
/-- `blt`: signed less (R173, decision D13). -/
def condLt (o : Operands) : Bool := decide (o.a.toInt < o.b.toInt)
/-- `bgt`: signed greater (R174, decision D13). -/
def condGt (o : Operands) : Bool := decide (o.a.toInt > o.b.toInt)
/-- `ble`: signed less or equal (R175, decision D13). -/
def condLe (o : Operands) : Bool := decide (o.a.toInt ≤ o.b.toInt)
/-- `bge`: signed greater or equal (R176, decision D13). -/
def condGe (o : Operands) : Bool := decide (o.a.toInt ≥ o.b.toInt)

/-- A conditional branch: to the target when the condition holds, else the default advance (R170). -/
def State.branch (s : State) (o : Operands) (cond : Bool) : State :=
  if cond then s.setPc (target o) else s.advance

end Sys2Proof.Machine
end

