-- ==== Sys2Proof/Machine/Branch.lean ====
section
/-! DEFINITION. Opcodes 9 to 15 (spec/43_branch_jump.md): the six conditional branches and `jal`. -/

namespace Sys2Proof.Machine

/-- `beq` (R170, R171). -/
def execBeq (f : Fields) (s : State) : Host.Outcome State Fault Refusal :=
  .next (s.branch (latch f s) (condEq (latch f s)))

/-- `bne` (R170, R172). -/
def execBne (f : Fields) (s : State) : Host.Outcome State Fault Refusal :=
  .next (s.branch (latch f s) (condNe (latch f s)))

/-- `blt` (R170, R173). -/
def execBlt (f : Fields) (s : State) : Host.Outcome State Fault Refusal :=
  .next (s.branch (latch f s) (condLt (latch f s)))

/-- `bgt` (R170, R174). -/
def execBgt (f : Fields) (s : State) : Host.Outcome State Fault Refusal :=
  .next (s.branch (latch f s) (condGt (latch f s)))

/-- `ble` (R170, R175). -/
def execBle (f : Fields) (s : State) : Host.Outcome State Fault Refusal :=
  .next (s.branch (latch f s) (condLe (latch f s)))

/-- `bge` (R170, R176). -/
def execBge (f : Fields) (s : State) : Host.Outcome State Fault Refusal :=
  .next (s.branch (latch f s) (condGe (latch f s)))

/-- The link value of `jal`: zext_32(P) + 1, 1 to 4096, not masked (R177, decision D14). -/
def linkValue (p : Pc) : Word := p.setWidth 32 + 1

/-- `jal`: x[rd] <- link; pc <- C[11:0], C the old x[rm] (R177); read again after the link is written only under
the alternative of JAL_ALIAS_ORDER (D15). -/
def execJal (f : Fields) (s : State) : Host.Outcome State Fault Refusal :=
  let o := latch f s
  let linked := s.writeReg f.rd (linkValue o.p)
  match config.jalAliasOrder with
  | .latchFirst => .next (linked.setPc (target o))
  | .writeFirst => .next (linked.setPc (low12 (linked.reg f.rm)))

end Sys2Proof.Machine
end

