-- ==== Sys2Proof/Machine/LoadStore.lean ====
section
/-! DEFINITION. Opcodes 16 and 17 (spec/44_load_store.md). An index out of range is no fault: the read gives zero,
the write is ignored, a diagnostic leaves, and the instruction completes (R190, R191). -/

namespace Sys2Proof.Machine

/-- `lw`: x[rd] <- MemRead(A + B) + C (R190). -/
def execLw (f : Fields) (s : State) : Host.Outcome State Fault Refusal :=
  let o := latch f s
  let r := s.memRead (effectiveIndex o)
  .next (r.2.writeAndAdvance f.rd (r.1 + o.c))

/-- `sw`: MemWrite(A + B, C + D) (R191). -/
def execSw (f : Fields) (s : State) : Host.Outcome State Fault Refusal :=
  let o := latch f s
  .next (s.memWrite (effectiveIndex o) (o.c + o.d)).advance

end Sys2Proof.Machine
end

