-- ==== Sys2Proof/Machine/Shift.lean ====
section
/-! DEFINITION. Opcodes 6 to 8 (spec/42_shift.md): x[rs] shifted by x[rt]; rm is ignored. -/

namespace Sys2Proof.Machine

/-- `sll` (R160). -/
def execSll (f : Fields) (s : State) : Host.Outcome State Fault Refusal :=
  .next (s.writeAndAdvance f.rd (shiftResult .sll (latch f s)))

/-- `sra` (R161). -/
def execSra (f : Fields) (s : State) : Host.Outcome State Fault Refusal :=
  .next (s.writeAndAdvance f.rd (shiftResult .sra (latch f s)))

/-- `srl` (R162). -/
def execSrl (f : Fields) (s : State) : Host.Outcome State Fault Refusal :=
  .next (s.writeAndAdvance f.rd (shiftResult .srl (latch f s)))

end Sys2Proof.Machine
end

