-- ==== Sys2Proof/Machine/System.lean ====
section
/-! DEFINITION. Opcodes 18 to 21 and the unsupported opcodes 22 to 255 (spec/45_system_io.md). There is no
privilege: each executes alike in and out of a handler (R205, R270). -/

namespace Sys2Proof.Machine

/-- `reti`: pc <- io[7][11:0], isr <- 0 (R200). All fields are ignored (R106). -/
def execReti (_f : Fields) (s : State) : Host.Outcome State Fault Refusal :=
  .next s.returnFromInterrupt

/-- `in`: x[rd] <- IoRead(A + B) (R201). -/
def execIn (f : Fields) (s : State) : Host.Outcome State Fault Refusal :=
  let r := s.ioRead (effectiveIndex (latch f s))
  .next (r.2.writeAndAdvance f.rd r.1)

/-- `out`: IoWrite(A + B, C) (R202). -/
def execOut (f : Fields) (s : State) : Host.Outcome State Fault Refusal :=
  let o := latch f s
  .next (s.ioWrite (effectiveIndex o) o.c).advance

/-- `halt`: halted <- 1, pc unchanged (R203). All fields are ignored (R106). -/
def execHalt (_f : Fields) (s : State) : Host.Outcome State Fault Refusal :=
  .next (s.setHalted true)

/-- An unsupported opcode: report Opcode, pc + 1, nothing else (R204). -/
def execUnsupported (opcode : BitVec 8) (s : State) : Host.Outcome State Fault Refusal :=
  .next (s.report (.opcode opcode)).advance

end Sys2Proof.Machine
end

