-- ==== Sys2Proof/Machine/Dispatch.lean ====
section
/-! DEFINITION. Step 10: the execute stage, one arm per instruction (spec/40_cycle_pipeline.md R137). -/

namespace Sys2Proof.Machine

/-- The execute stage, on the state steps 1 to 9 left (R137). -/
def exec (i : Instr) (s : State) : Host.Outcome State Fault Refusal :=
  match i with
  | .add f => Sys2Proof.Machine.execAdd f s
  | .sub f => Sys2Proof.Machine.execSub f s
  | .mac f => Sys2Proof.Machine.execMac f s
  | .and f => Sys2Proof.Machine.execAnd f s
  | .or f => Sys2Proof.Machine.execOr f s
  | .xor f => Sys2Proof.Machine.execXor f s
  | .sll f => Sys2Proof.Machine.execSll f s
  | .sra f => Sys2Proof.Machine.execSra f s
  | .srl f => Sys2Proof.Machine.execSrl f s
  | .beq f => Sys2Proof.Machine.execBeq f s
  | .bne f => Sys2Proof.Machine.execBne f s
  | .blt f => Sys2Proof.Machine.execBlt f s
  | .bgt f => Sys2Proof.Machine.execBgt f s
  | .ble f => Sys2Proof.Machine.execBle f s
  | .bge f => Sys2Proof.Machine.execBge f s
  | .jal f => Sys2Proof.Machine.execJal f s
  | .lw f => Sys2Proof.Machine.execLw f s
  | .sw f => Sys2Proof.Machine.execSw f s
  | .reti f => Sys2Proof.Machine.execReti f s
  | .in_ f => Sys2Proof.Machine.execIn f s
  | .out f => Sys2Proof.Machine.execOut f s
  | .halt f => Sys2Proof.Machine.execHalt f s

end Sys2Proof.Machine
end

