-- ==== Sys2Proof/Machine/Step.lean ====
section
/-! DEFINITION. One step of the machine: one cycle (spec/40_cycle_pipeline.md R130, R131, R142). -/

namespace Sys2Proof.Machine

/-- Step 10 on a fetched word: the decoded instruction, or R204's effect for an unsupported opcode. -/
def executeWord (w : Slot) (s : State) : Host.Outcome State Fault Refusal :=
  match decode w with
  | .instr i => exec i s
  | .unsupported opcode => execUnsupported opcode s

/-- One step. While halted the machine performs no cycle and stays as it is (R54, R140); otherwise one cycle. -/
def step (s : State) : Host.Outcome State Fault Refusal :=
  if s.halted then .next s
  else
    let fetched := beforeFetch s
    let w := fetch fetched
    executeWord w (decodePhase w fetched)

/-- `s` with an instruction placed where the next step fetches; a number that fits no slot places nothing. -/
def State.withFetchWord (s : State) (nbits w : Nat) : State :=
  match tableSlot nbits w with
  | some slot => placeWord s slot
  | none => s

end Sys2Proof.Machine
end

