-- ==== Sys2Proof/Safety.lean ====
section
/-! DEFINITION. The invariant of the machine and what counts as a good run, in the terms the statements use.
Every step of this hardware is safe in the sense that it answers a next state (spec/60_exceptions.md R221); a run
is CLEAN when it also reports no diagnostic, the stricter reading that spec/93_implementation_defined.md U1 to U4
allows for reasoning about programs. -/

namespace Sys2Proof.Machine

/-- A diagnostic that its condition in R220's table justifies. The conditions of `DiskSector` and `MonAddr` are
unreachable with this configuration (R245, R260), so no record of theirs is justified. -/
def Diagnostic.justified : Diagnostic → Prop
  | .memAddr a => config.dmemWords ≤ a.toNat
  | .ioIndex i => 23 ≤ i.toNat
  | .diskSector _ => False
  | .diskCmd c => c = 3
  | .monAddr _ => False
  | .opcode op => 22 ≤ op.toNat

/-- The invariant: what every state a run reaches satisfies. -/
structure State.Inv (s : State) : Prop where
  /-- the storage behind the hard-wired register holds zero (R21) -/
  reg0 : s.regs[0] = 0
  /-- every slot holds a value inside its width, zero for a reserved slot (R29, R49) -/
  ioMasked : ∀ r : IoReg, (s.ioAt r).toNat < 2 ^ r.width
  /-- the busy counter is in its range (R56) -/
  diskRange : s.diskRemaining ≤ config.diskLatency
  /-- data memory is canonical and inside its space (R72) -/
  dmemWf : s.dmem.wf config.dmemWords = true
  /-- the disk is canonical and inside its space (R55) -/
  diskWf : s.disk.wf (config.diskSectors * config.sectorBytes) = true
  /-- the monitor buffer is canonical and inside its space (R57) -/
  monWf : s.mon.wf (config.monHeight * config.monWidth) = true
  /-- instruction memory is canonical and inside its space (R59) -/
  imemWf : s.imem.wf 4096 = true
  /-- one trace record per completed cycle (R136) -/
  traceCount : s.trace.length = s.cycle
  /-- every diagnostic reported is justified (R220) -/
  diagsJustified : ∀ d ∈ s.diags, d.justified

/-- A clean step: it answers a next state and reports no diagnostic. -/
def CleanStep (s : State) : Prop := ∃ t, step s = .next t ∧ t.diags = s.diags

/-- A clean run of `n` steps. -/
def CleanRun (n : Nat) (s : State) : Prop := ∃ t, Sys2Proof.core.run n s = .next t ∧ t.diags = s.diags

end Sys2Proof.Machine
end

