-- ==== Sys2Proof/Certificates/Slice0/Obligations.lean ====
section
/-! DEFINITION. The statements for the provers, from the numbered rules of spec/. A frame is said through reads:
of a register, of a slot, of one word, byte, pixel or instruction slot. -/

namespace Sys2Proof.Machine

/-! ### Frames -/

/-- Every register reads as before. -/
def KeepsRegs (s t : State) : Prop := ∀ r, t.reg r = s.reg r

/-- The two flags are as before. -/
def KeepsFlags (s t : State) : Prop := t.isr = s.isr ∧ t.halted = s.halted

/-- Every slot of the I/O bank is as before. -/
def KeepsIo (s t : State) : Prop := ∀ r, t.ioAt r = s.ioAt r

/-- Every word of data memory reads as before. -/
def KeepsDmem (s t : State) : Prop := ∀ a, t.dmem.read a = s.dmem.read a

/-- The disk's bytes and its hidden counter, the pixels, instruction memory, the schedule, the cycle count and the
trace are as before: what no instruction of the execute stage touches. -/
def KeepsHidden (s t : State) : Prop :=
  t.diskRemaining = s.diskRemaining ∧ (∀ a, t.disk.read a = s.disk.read a) ∧ (∀ a, t.mon.read a = s.mon.read a) ∧
    (∀ a, t.imem.read a = s.imem.read a) ∧ t.extSched = s.extSched ∧ t.cycle = s.cycle ∧ t.trace = s.trace

/-- What steps 1 to 4 and step 6 of a cycle leave alone, whatever they do: registers, flags, pc, instruction memory, the
schedule, the cycle count and the trace. -/
def KeepsProgram (s t : State) : Prop :=
  KeepsRegs s t ∧ KeepsFlags s t ∧ t.pc = s.pc ∧ (∀ a, t.imem.read a = s.imem.read a) ∧ t.extSched = s.extSched ∧
    t.cycle = s.cycle ∧ t.trace = s.trace

/-- `x[rd] <- v` by the execute stage: discarded for R0, R1 and R2 (R21, R23), every other register kept. -/
def RegsAfterWrite (s t : State) (rd : RegNum) (v : Word) : Prop :=
  ∀ r, t.reg r = if r = rd ∧ 3 ≤ rd.val then v else s.reg r

/-- `pc <- (P + 1) mod 4096`. -/
def PcAdvanced (s t : State) : Prop := t.pc.toNat = (s.pc.toNat + 1) % 4096

/-- The instruction completes: it writes `v` to `x[rd]`, advances pc, and changes nothing else. -/
def WritesRegOnly (i : Instr) (s : State) (rd : RegNum) (v : Word) : Prop :=
  ∃ t, exec i s = .next t ∧ RegsAfterWrite s t rd v ∧ PcAdvanced s t ∧ KeepsFlags s t ∧ KeepsIo s t ∧
    KeepsDmem s t ∧ KeepsHidden s t ∧ t.diags = s.diags

/-- The instruction completes: pc becomes `p` and nothing else changes. -/
def SetsPcOnly (i : Instr) (s : State) (p : Nat) : Prop :=
  ∃ t, exec i s = .next t ∧ t.pc.toNat = p ∧ KeepsRegs s t ∧ KeepsFlags s t ∧ KeepsIo s t ∧
    KeepsDmem s t ∧ KeepsHidden s t ∧ t.diags = s.diags

/-- The opcode field, bits 47..40 of the word, said by arithmetic: the quotient by 2^40 (R101). -/
def topByte (w : Slot) : Nat := w.toNat / 0x10000000000

/-- Every word whose opcode field is `n` decodes to the instruction `c` on the word's own fields (R101, R104). -/
def EncodedBy (n : Nat) (c : Fields → Instr) : Prop :=
  ∀ w : Slot, topByte w = n → decode w = .instr (c (fieldsOf w))

/-- The instructions that write `x[rd]`: opcodes 0 to 8, 15, 16 and 19 (spec/10_state.md, the list under R24). -/
def writesRd : Instr → Bool
  | .add _ | .sub _ | .mac _ | .and _ | .or _ | .xor _ | .sll _ | .sra _ | .srl _ => true
  | .jal _ | .lw _ | .in_ _ => true
  | .beq _ | .bne _ | .blt _ | .bgt _ | .ble _ | .bge _ => false
  | .sw _ | .reti _ | .out _ | .halt _ => false

/-- The three status slots (R225). -/
def isStatusSlot (r : IoReg) : Prop := r = .irq0status ∨ r = .irq1status ∨ r = .irq2status

/-- Some line is enabled and pending (R250). -/
def SomeLinePending (s : State) : Prop :=
  (s.ioAt .irq0enable = 1 ∧ s.ioAt .irq0status = 1) ∨ (s.ioAt .irq1enable = 1 ∧ s.ioAt .irq1status = 1) ∨
    (s.ioAt .irq2enable = 1 ∧ s.ioAt .irq2status = 1)

/-- Steps 1 to 4 of a cycle. -/
def beforeDispatch (s : State) : State := tickDisk (sampleExternal (tickTimer (tickClock s)))

/-- Word `j` of sector `sec`, its four bytes most significant first (R79, R243). -/
def sectorWord (s : State) (sec j : Nat) : Nat :=
  (s.diskByte sec (4 * j)).toNat * 2 ^ 24 + (s.diskByte sec (4 * j + 1)).toNat * 2 ^ 16 +
    (s.diskByte sec (4 * j + 2)).toNat * 2 ^ 8 + (s.diskByte sec (4 * j + 3)).toNat

/-- The records of a transfer, newest first: `n` of `MemAddr` for each byte whose word is out of range (R92, R243, R244). -/
def transferReports (buf : Word) (n : Nat) : List Diagnostic :=
  ((List.range 512).reverse.filter fun b => 4096 ≤ buf.toNat + b / 4).flatMap fun b =>
    List.replicate n (.memAddr (buf + BitVec.ofNat 32 (b / 4)))

end Sys2Proof.Machine

open Sys2Proof Sys2Proof.Machine

/-! ### Encoding -/

/-- Every well-formed instruction is read back whole from its word: no operand bit is dropped (R101, R104; the layout and
the two's complement reading are the spec's decisions D1, D2, log entry 1). -/
def Obligations.DecodeEncodeRoundTrip : Prop :=
  ∀ i : Instr, i.wellFormed = true → decode (encode i) = .instr i

/-- Every word decodes: with an opcode field of 0 to 21 to a well-formed instruction whose word it is, from 22 on
to the unsupported opcode of that number, and to nothing else (R101, R104, R105, R134; layout by decision D1, log entry 1). -/
def Obligations.DecodeIsTotalAndUnambiguous : Prop :=
  ∀ w : Slot,
    (topByte w ≤ 21 →
      ∃ i : Instr, decode w = .instr i ∧ i.wellFormed = true ∧ i.opcode = topByte w ∧ encode i = w) ∧
    (22 ≤ topByte w → decode w = .unsupported (BitVec.ofNat 8 (topByte w)))

/-- Words written out from the spec's encodings decode to the instructions they stand for (30 R101, 95 part 2; layout and sign
by decisions D1, D2, log entry 1). -/
def Obligations.SampleWordsDecode : Prop :=
  decode 0x003456000000 = .instr (.add ⟨3, 4, 5, 6, 0, 0⟩) ∧
  decode 0x063410004000 = .instr (.sll ⟨3, 4, 1, 0, 4, 0⟩) ∧
  decode 0x0B0312003004 = .instr (.blt ⟨0, 3, 1, 2, 3, 4⟩) ∧
  decode 0x113412002064 = .instr (.sw ⟨3, 4, 1, 2, 2, 100⟩) ∧
  decode 0x15FEDCFFF001 = .instr (.halt ⟨15, 14, 13, 12, -1, 1⟩) ∧
  decode 0xFFFFFFFFFFFF = .unsupported 255

/-! ### Arithmetic, logic and shifts -/

/-- `add`, `sub`, `mac`: the low 32 bits of the mathematical result, whatever the operands (R150 to R152). The wrap
is the spec's decision D10, D11 (log entry 5); the discarded writes to R1 and R2 are D5 (log entry 2). -/
def Obligations.AddSubMacWriteWrappedResult : Prop :=
  ∀ (f : Fields) (s : State),
    WritesRegOnly (.add f) s f.rd
      (BitVec.ofNat 32 ((s.reg f.rs).toNat + (s.reg f.rt).toNat + (s.reg f.rm).toNat)) ∧
    WritesRegOnly (.sub f) s f.rd
      (BitVec.ofInt 32 ((s.reg f.rs).toInt - (s.reg f.rt).toInt - (s.reg f.rm).toInt)) ∧
    WritesRegOnly (.mac f) s f.rd
      (BitVec.ofNat 32 ((s.reg f.rs).toNat * (s.reg f.rt).toNat + (s.reg f.rm).toNat))

/-- `and`, `or`, `xor`: bit by bit over all three sources, and their opcodes (R153 to R155). -/
def Obligations.AndOrXorWriteBitwiseResult : Prop :=
  EncodedBy 3 .and ∧ EncodedBy 4 .or ∧ EncodedBy 5 .xor ∧
  ∀ (f : Fields) (s : State),
    WritesRegOnly (.and f) s f.rd (s.reg f.rs &&& s.reg f.rt &&& s.reg f.rm) ∧
    WritesRegOnly (.or f) s f.rd (s.reg f.rs ||| s.reg f.rt ||| s.reg f.rm) ∧
    WritesRegOnly (.xor f) s f.rd (s.reg f.rs ^^^ s.reg f.rt ^^^ s.reg f.rm)

/-- The shifts, in the arithmetic form of R160 to R162, by the low five bits of the amount register. For amounts of
32 or more this rests on the spec's decision D12 (configuration field SHIFT_OVER, log entry 6). -/
def Obligations.ShiftsUseLowFiveBits : Prop :=
  ∀ (f : Fields) (s : State),
    WritesRegOnly (.sll f) s f.rd (BitVec.ofNat 32 ((s.reg f.rs).toNat * 2 ^ ((s.reg f.rt).toNat % 32))) ∧
    WritesRegOnly (.sra f) s f.rd (BitVec.ofInt 32 ((s.reg f.rs).toInt / 2 ^ ((s.reg f.rt).toNat % 32))) ∧
    WritesRegOnly (.srl f) s f.rd (BitVec.ofNat 32 ((s.reg f.rs).toNat / 2 ^ ((s.reg f.rt).toNat % 32)))

/-! ### Branches and jal -/

/-- `beq` and `bne`: all 32 bits compared; taken to the low 12 bits of x[rm], else pc + 1; nothing else changes, rd
ignored (R170 to R172). -/
def Obligations.EqualityBranchesSetPcOnly : Prop :=
  EncodedBy 9 .beq ∧ EncodedBy 10 .bne ∧
  ∀ (f : Fields) (s : State),
    SetsPcOnly (.beq f) s
      (if s.reg f.rs = s.reg f.rt then (s.reg f.rm).toNat % 4096 else (s.pc.toNat + 1) % 4096) ∧
    SetsPcOnly (.bne f) s
      (if s.reg f.rs ≠ s.reg f.rt then (s.reg f.rm).toNat % 4096 else (s.pc.toNat + 1) % 4096)

/-- `blt`, `bgt`, `ble`, `bge` compare as two's complement numbers (R173 to R176, R179). That the comparison is signed
is the spec's decision D13 (log entry 7). -/
def Obligations.OrderingBranchesCompareSigned : Prop :=
  ∀ (f : Fields) (s : State),
    SetsPcOnly (.blt f) s
      (if (s.reg f.rs).toInt < (s.reg f.rt).toInt then (s.reg f.rm).toNat % 4096 else (s.pc.toNat + 1) % 4096) ∧
    SetsPcOnly (.bgt f) s
      (if (s.reg f.rt).toInt < (s.reg f.rs).toInt then (s.reg f.rm).toNat % 4096 else (s.pc.toNat + 1) % 4096) ∧
    SetsPcOnly (.ble f) s
      (if (s.reg f.rs).toInt ≤ (s.reg f.rt).toInt then (s.reg f.rm).toNat % 4096 else (s.pc.toNat + 1) % 4096) ∧
    SetsPcOnly (.bge f) s
      (if (s.reg f.rt).toInt ≤ (s.reg f.rs).toInt then (s.reg f.rm).toNat % 4096 else (s.pc.toNat + 1) % 4096)

/-- `jal`: the link value is pc + 1 unmasked (4096 at pc 4095), the target the old x[rm] even when rd = rm (R177). The
unmasked link is decision D14 (log entry 8), the order of read and write decision D15 (log entry 9). -/
def Obligations.JalLinksThenJumpsToOldTarget : Prop :=
  ∀ (f : Fields) (s : State), ∃ t, exec (.jal f) s = .next t ∧
    RegsAfterWrite s t f.rd (BitVec.ofNat 32 (s.pc.toNat + 1)) ∧ t.pc.toNat = (s.reg f.rm).toNat % 4096 ∧
    KeepsFlags s t ∧ KeepsIo s t ∧ KeepsDmem s t ∧ KeepsHidden s t ∧ t.diags = s.diags

/-! ### Load and store -/

/-- `lw`: x[rd] gets the word at (x[rs] + x[rt]) mod 2^32 plus x[rm]; out of range the word is zero and MemAddr leaves
on the diagnostic port (R190, R76, R78). The range check and the completion with zero are decisions D16, D17 (log entry 10). -/
def Obligations.LoadWordAddsRm : Prop :=
  ∀ (f : Fields) (s : State),
    ((s.reg f.rs + s.reg f.rt).toNat < 4096 →
      WritesRegOnly (.lw f) s f.rd (s.dmem.read (s.reg f.rs + s.reg f.rt).toNat + s.reg f.rm)) ∧
    (4096 ≤ (s.reg f.rs + s.reg f.rt).toNat →
      ∃ t, exec (.lw f) s = .next t ∧ RegsAfterWrite s t f.rd (s.reg f.rm) ∧ PcAdvanced s t ∧ KeepsFlags s t ∧
        KeepsIo s t ∧ KeepsDmem s t ∧ KeepsHidden s t ∧
        t.diags = .memAddr (s.reg f.rs + s.reg f.rt) :: s.diags)

/-- `sw`: the word at (x[rs] + x[rt]) mod 2^32 becomes x[rm] + x[rd] and every other word reads as before; out of range
nothing is stored and MemAddr leaves; no register is written (R191). -/
def Obligations.StoreWordStoresRmPlusRd : Prop :=
  EncodedBy 17 .sw ∧
  ∀ (f : Fields) (s : State),
    effectiveIndex (latch f s) = s.reg f.rs + s.reg f.rt ∧
    ∃ t, exec (.sw f) s = .next t ∧ KeepsRegs s t ∧ PcAdvanced s t ∧ KeepsFlags s t ∧ KeepsIo s t ∧ KeepsHidden s t ∧
      ((effectiveIndex (latch f s)).toNat < 4096 →
        (∀ a, t.dmem.read a =
          if a = (effectiveIndex (latch f s)).toNat then s.reg f.rm + s.reg f.rd else s.dmem.read a) ∧
        t.diags = s.diags) ∧
      (4096 ≤ (effectiveIndex (latch f s)).toNat →
        KeepsDmem s t ∧ t.diags = .memAddr (effectiveIndex (latch f s)) :: s.diags)

/-- `MemRead` after `MemWrite`: the value at the same index, the old value at every other; out of range nothing is
written and zero is read (R76, R77; range check by decision D16, log entry 10). -/
def Obligations.MemReadAfterMemWrite : Prop :=
  ∀ (s : State) (a b v : Word),
    ((s.memWrite a v).memRead b).1 =
      if b.toNat < 4096 then (if b = a then v else s.dmem.read b.toNat) else 0

/-! ### System and I/O instructions -/

/-- `reti`: pc from irqreturn, the ISR flag cleared, in or out of a handler; nothing else changes: no status bit, no
enable bit, no register; and an enabled line still pending is taken again in the very next cycle, saving the restored pc
(R200). -/
def Obligations.RetiRestoresPcAndClearsIsr : Prop :=
  EncodedBy 18 .reti ∧
  ∀ (f : Fields) (s : State), ∃ t, exec (.reti f) s = .next t ∧
    t.pc.toNat = (s.ioAt .irqreturn).toNat % 4096 ∧ t.isr = false ∧ t.halted = s.halted ∧
    KeepsRegs s t ∧ KeepsIo s t ∧ KeepsDmem s t ∧ KeepsHidden s t ∧ t.diags = s.diags ∧
    (s.Inv → SomeLinePending s →
      (executeState t).isr = true ∧ ((executeState t).ioAt .irqreturn).toNat = (s.ioAt .irqreturn).toNat % 4096)

/-- `in`: the stored value of the slot, no side effect; an index from 23 on reads zero and IoIndex leaves (R201, R80). The
index check and the completion with zero are decisions D17, D18 (log entry 10). -/
def Obligations.InReadsSlotOrZero : Prop :=
  ∀ (f : Fields) (s : State),
    (∀ r : IoReg, (s.reg f.rs + s.reg f.rt).toNat = r.index.val → WritesRegOnly (.in_ f) s f.rd (s.ioAt r)) ∧
    (23 ≤ (s.reg f.rs + s.reg f.rt).toNat →
      ∃ t, exec (.in_ f) s = .next t ∧ RegsAfterWrite s t f.rd 0 ∧ PcAdvanced s t ∧ KeepsFlags s t ∧ KeepsIo s t ∧
        KeepsDmem s t ∧ KeepsHidden s t ∧ t.diags = .ioIndex (s.reg f.rs + s.reg f.rt) :: s.diags)

/-- `out`: the named slot gets x[rm] reduced to its width, a slot of width 0 keeps its value, every other slot is kept;
an index from 23 on writes nothing and IoIndex leaves; no register is written (R202). -/
def Obligations.OutWritesMaskedSlot : Prop :=
  EncodedBy 20 .out ∧
  ∀ (f : Fields) (s : State), ∃ t, exec (.out f) s = .next t ∧ KeepsRegs s t ∧ PcAdvanced s t ∧ KeepsFlags s t ∧
    KeepsDmem s t ∧ KeepsHidden s t ∧
    (∀ r : IoReg, (s.reg f.rs + s.reg f.rt).toNat = r.index.val →
      (t.ioAt r).toNat =
        (if r.width = 0 then (s.ioAt r).toNat else (s.reg f.rm).toNat % 2 ^ r.width) ∧
      (∀ q : IoReg, q ≠ r → t.ioAt q = s.ioAt q) ∧ t.diags = s.diags) ∧
    (23 ≤ (s.reg f.rs + s.reg f.rt).toNat →
      KeepsIo s t ∧ t.diags = .ioIndex (s.reg f.rs + s.reg f.rt) :: s.diags)

/-- `halt`: the halted flag is set, pc is kept (decision D25, log entry 13), nothing else changes (R203). -/
def Obligations.HaltSetsHaltedOnly : Prop :=
  ∀ (f : Fields) (s : State), ∃ t, exec (.halt f) s = .next t ∧ t.halted = true ∧ t.pc = s.pc ∧ t.isr = s.isr ∧
    KeepsRegs s t ∧ KeepsIo s t ∧ KeepsDmem s t ∧ KeepsHidden s t ∧ t.diags = s.diags

/-- A cycle that fetches an unsupported opcode: the immediates are loaded and the trace record made, Opcode leaves, pc
advances, and no other register, slot, memory or flag changes by execute (R204). -/
def Obligations.UnsupportedOpcodeIsReportedNoOp : Prop :=
  ∀ (s : State), s.halted = false → 22 ≤ topByte (fetchedWord s) →
    ∃ t, step s = .next t ∧
      (∀ r, t.reg r = if r = 1 then sext32 (fieldsOf (fetchedWord s)).imm1
        else if r = 2 then sext32 (fieldsOf (fetchedWord s)).imm2 else (beforeFetch s).reg r) ∧
      t.pc.toNat = ((beforeFetch s).pc.toNat + 1) % 4096 ∧ KeepsFlags (beforeFetch s) t ∧
      KeepsIo (beforeFetch s) t ∧ KeepsDmem (beforeFetch s) t ∧ KeepsHidden (executeState s) t ∧
      t.trace.length = s.trace.length + 1 ∧
      t.diags = .opcode (BitVec.ofNat 8 (topByte (fetchedWord s))) :: (beforeFetch s).diags

/-- Fields an instruction does not use do not matter to the execute stage: rm in the shifts and `in`, rd in the branches
and `out`, rs and rt in `jal`, all in `reti` and `halt` (R106; decision D1, log entry 1). -/
def Obligations.UnusedFieldsAreIgnored : Prop :=
  ∀ (f g : Fields) (s : State),
    (f.rd = g.rd ∧ f.rs = g.rs ∧ f.rt = g.rt →
      exec (.sll f) s = exec (.sll g) s ∧ exec (.sra f) s = exec (.sra g) s ∧
      exec (.srl f) s = exec (.srl g) s ∧ exec (.in_ f) s = exec (.in_ g) s) ∧
    (f.rs = g.rs ∧ f.rt = g.rt ∧ f.rm = g.rm →
      exec (.beq f) s = exec (.beq g) s ∧ exec (.bne f) s = exec (.bne g) s ∧ exec (.blt f) s = exec (.blt g) s ∧
      exec (.bgt f) s = exec (.bgt g) s ∧ exec (.ble f) s = exec (.ble g) s ∧ exec (.bge f) s = exec (.bge g) s ∧
      exec (.out f) s = exec (.out g) s) ∧
    (f.rd = g.rd ∧ f.rm = g.rm → exec (.jal f) s = exec (.jal g) s) ∧
    exec (.reti f) s = exec (.reti g) s ∧ exec (.halt f) s = exec (.halt g) s

/-! ### The register file and the bank -/

/-- Register 0 reads zero in every state, every write to it is discarded, and no instruction changes that (R21). -/
def Obligations.RegisterZeroIsHardwired : Prop :=
  (∀ s : State, s.reg 0 = 0) ∧ (∀ (s : State) (v : Word), s.writeReg 0 v = s) ∧
  ∀ (i : Instr) (s t : State), exec i s = .next t → t.reg 0 = 0

/-- Only opcodes 0 to 8, 15, 16 and 19 write a register, and then only x[rd] with rd not 0, 1 or 2 (R21, R23 and the list
under R24). The discarded writes to R1 and R2 are decision D5 (log entry 2). -/
def Obligations.OnlyListedInstructionsWriteTheirRd : Prop :=
  ∀ (i : Instr) (s t : State) (r : RegNum), exec i s = .next t → t.reg r ≠ s.reg r →
    writesRd i = true ∧ r = i.fields.rd ∧ 3 ≤ r.val

/-- In every cycle the devices leave the registers alone and, before execute, R1 and R2 hold the sign-extended immediates
of the fetched word (R22, R25, R135); the sign extension and the two indices are decisions D2, D3 (log entry 1). After
the cycle they still hold them. -/
def Obligations.ImmediateRegistersHoldFetchedImmediates : Prop :=
  ∀ s : State,
    (∀ r, (executeState s).reg r =
      if r = 1 then BitVec.ofInt 32 ((fetchedWord s).extractLsb' 12 12).toInt
      else if r = 2 then BitVec.ofInt 32 ((fetchedWord s).extractLsb' 0 12).toInt else s.reg r) ∧
    ∀ t, s.halted = false → step s = .next t →
      t.reg 1 = BitVec.ofInt 32 ((fetchedWord s).extractLsb' 12 12).toInt ∧
      t.reg 2 = BitVec.ofInt 32 ((fetchedWord s).extractLsb' 0 12).toInt

/-- The 23 slots have the indices and the widths of R30's table (widths by decisions D7 and D8, log entry 4). -/
def Obligations.BankHasTheListedSlots : Prop :=
  [IoReg.irq0enable, .irq1enable, .irq2enable, .irq0status, .irq1status, .irq2status, .irqhandler, .irqreturn, .clks,
    .leds, .display7seg, .timerenable, .timercurrent, .timermax, .diskcmd, .disksector, .diskbuffer, .diskstatus,
    .reserved18, .reserved19, .monitoraddr, .monitordata, .monitorcmd].map (fun r => (r.index.val, r.width)) =
  [(0, 1), (1, 1), (2, 1), (3, 1), (4, 1), (5, 1), (6, 12), (7, 12), (8, 32), (9, 32), (10, 32), (11, 1), (12, 32),
    (13, 32), (14, 2), (15, 7), (16, 12), (17, 1), (18, 0), (19, 0), (20, 16), (21, 8), (22, 1)]

/-- A bus write and then a bus read of the same slot gives the value reduced to the slot's width, or the value it already held
for a slot of width 0; outside the bank the write changes nothing and the read gives zero, each with IoIndex (R80, R81; the
index check is decision D18, log entry 10). -/
def Obligations.BusWriteThenReadIsMasked : Prop :=
  ∀ (s : State) (i v : Word),
    (∀ r : IoReg, i.toNat = r.index.val →
      ((s.ioWrite i v).ioRead i).1.toNat = (if r.width = 0 then (s.ioAt r).toNat else v.toNat % 2 ^ r.width) ∧
      (s.ioRead i).2 = s ∧ (s.ioWrite i v).diags = s.diags) ∧
    (23 ≤ i.toNat →
      s.ioWrite i v = s.report (.ioIndex i) ∧ s.ioRead i = (0, s.report (.ioIndex i)))

/-! ### The cycle -/

/-- A cycle executes the decoded instruction of the slot at pc, on the state the devices left, with the immediates loaded
and one trace record more (R131, R133, R135, R136, R137). That the cycle count is already one more when execute runs is no
rule of the spec: it is the model's choice (DESIGN CHOICE, log entry 22). -/
def Obligations.StepRunsDecodedInstruction : Prop :=
  ∀ (s : State) (i : Instr), s.halted = false → decode (fetchedWord s) = .instr i →
    step s = exec i (executeState s) ∧
    fetchedWord s = (devicePhase s).imem.read (devicePhase s).pc.toNat ∧
    (executeState s).pc = (devicePhase s).pc ∧ KeepsFlags (devicePhase s) (executeState s) ∧
    KeepsIo (devicePhase s) (executeState s) ∧ KeepsDmem (devicePhase s) (executeState s) ∧
    (∀ r, (executeState s).reg r = if r = 1 then sext32 (fieldsOf (fetchedWord s)).imm1
      else if r = 2 then sext32 (fieldsOf (fetchedWord s)).imm2 else (devicePhase s).reg r) ∧
    (executeState s).trace.length = s.trace.length + 1 ∧
    (executeState s).cycle = s.cycle + 1 ∧ (executeState s).diags = (devicePhase s).diags

/-- No step of any state stops: each instruction, and each cycle of a running machine, answers a next state (R130, R220,
R221). That `step` also answers a next state when the machine is halted, where the spec says that no cycle is performed
(R54, R130), is the model's choice (DESIGN CHOICE, log entry 14). -/
def Obligations.EveryStepAnswersNext : Prop :=
  (∀ (i : Instr) (s : State), ∃ t, exec i s = .next t) ∧ ∀ s : State, ∃ t, step s = .next t

/-- The halted flag is set by `halt` and by nothing else and never cleared; a halted machine performs no cycle (R54,
R140; that `step` then answers the same state is the model's choice, log entry 14). -/
def Obligations.OnlyHaltEndsTheRun : Prop :=
  (∀ s : State, s.halted = true → step s = .next s) ∧
  ∀ s t : State, s.halted = false → step s = .next t →
    (t.halted = true ↔ ∃ f, decode (fetchedWord s) = .instr (.halt f))

/-- Every cycle emits exactly one trace record: the pc and word about to execute and all registers after the immediate
load (R136; when the snapshot is taken is decision D26, log entry 16). -/
def Obligations.OneTraceRecordPerCycle : Prop :=
  ∀ s t : State, s.halted = false → step s = .next t →
    ∃ x : Vector Word 16, t.trace = ⟨(beforeFetch s).pc, fetchedWord s, x⟩ :: s.trace ∧
      ∀ r : RegNum, x[r.val] = (executeState s).reg r

/-- Instruction memory is never written: every step leaves every slot as it is (R299). -/
def Obligations.InstructionMemoryIsNeverWritten : Prop :=
  ∀ s t : State, step s = .next t → ∀ a, t.imem.read a = s.imem.read a

/-- The fetch reads the slot at the pc step 5 left: the handler address when an interrupt is taken in this cycle, so the
handler's first instruction executes in it, else the pc of before (R133). -/
def Obligations.FetchReadsHandlerInTheDispatchCycle : Prop :=
  ∀ s : State, fetchedWord s = s.imem.read
    (if (beforeDispatch s).irqPending = true ∧ s.isr = false then (s.ioAt .irqhandler).toNat % 4096 else s.pc.toNat)

/-- Execution does not depend on the ISR flag: with the flag flipped every instruction does the same, and leaves the flag
as it is unless it is `reti` (R205, R270; the single mode is decision D33). -/
def Obligations.IsrDoesNotAffectExecution : Prop :=
  ∀ (i : Instr) (s t : State) (b : Bool), exec i s = .next t →
    exec i (s.setIsr b) = .next (t.setIsr (match i with | .reti _ => false | _ => b))

/-! ### Devices -/

/-- Step 1, the first of the cycle, adds one modulo 2^32 to clks and changes nothing else, and no other device writes it, so
the instruction of the cycle reads one more than the cycle before left: k + 1 in the cycle of ordinal k when software
never wrote it (R132). -/
def Obligations.ClockCountsEveryCycle : Prop :=
  ∀ s : State,
    ((tickClock s).ioAt .clks).toNat = ((s.ioAt .clks).toNat + 1) % 2 ^ 32 ∧
    (∀ r : IoReg, r ≠ .clks → (tickClock s).ioAt r = s.ioAt r) ∧
    KeepsRegs s (tickClock s) ∧ KeepsFlags s (tickClock s) ∧ (tickClock s).pc = s.pc ∧ KeepsDmem s (tickClock s) ∧
    KeepsHidden s (tickClock s) ∧ (tickClock s).diags = s.diags ∧
    ((executeState s).ioAt .clks).toNat = ((s.ioAt .clks).toNat + 1) % 2 ^ 32 ∧
    ((s.ioAt .clks).toNat = s.cycle % 2 ^ 32 → ((executeState s).ioAt .clks).toNat = (s.cycle + 1) % 2 ^ 32) ∧
    devicePhase s = serviceMonitor (dispatchInterrupt (tickDisk (sampleExternal (tickTimer (tickClock s)))))

/-- The timer tick compares before it counts; disabled it changes nothing; enabled or not it leaves every other slot, the
registers, flags, pc, memories and outputs alone; and enabled with the count at 0 and maximum m it leaves the count at n and the
status bit alone for n ≤ m ticks, and in tick m + 1 sets the status bit and returns the count to 0: the period is
m + 1 (R231). -/
def Obligations.TimerTicksAndPeriod : Prop :=
  (∀ s : State, s.ioAt .timerenable ≠ 1 → tickTimer s = s) ∧
  (∀ s : State, s.ioAt .timerenable = 1 →
    (tickTimer s).ioAt .irq0status =
      (if s.ioAt .timercurrent = s.ioAt .timermax then 1 else s.ioAt .irq0status) ∧
    ((tickTimer s).ioAt .timercurrent).toNat =
      (if s.ioAt .timercurrent = s.ioAt .timermax then 0 else ((s.ioAt .timercurrent).toNat + 1) % 2 ^ 32) ∧
    (∀ r : IoReg, r ≠ .irq0status → r ≠ .timercurrent → (tickTimer s).ioAt r = s.ioAt r) ∧
    KeepsProgram s (tickTimer s) ∧ KeepsDmem s (tickTimer s) ∧ KeepsHidden s (tickTimer s) ∧
    (tickTimer s).diags = s.diags) ∧
  (∀ (s : State) (n : Nat), s.ioAt .timerenable = 1 → s.ioAt .timercurrent = 0 → n ≤ (s.ioAt .timermax).toNat →
    ((tickTimer^[n] s).ioAt .timercurrent).toNat = n ∧
    (tickTimer^[n] s).ioAt .irq0status = s.ioAt .irq0status) ∧
  (∀ s : State, s.ioAt .timerenable = 1 → s.ioAt .timercurrent = 0 →
    (tickTimer^[(s.ioAt .timermax).toNat + 1] s).ioAt .timercurrent = 0 ∧
    (tickTimer^[(s.ioAt .timermax).toNat + 1] s).ioAt .irq0status = 1)

/-- Step 3 sets irq2status, and nothing else, when the schedule asserts the line in this cycle, and otherwise does nothing
(R235, R58). The schedule's base 0 is decision D24 (log entry 15). -/
def Obligations.ExternalLineSetsIrq2Status : Prop :=
  ∀ s : State,
    ((s.cycle, true) ∈ s.extSched →
      (sampleExternal s).ioAt .irq2status = 1 ∧
      (∀ r : IoReg, r ≠ .irq2status → (sampleExternal s).ioAt r = s.ioAt r) ∧
      KeepsProgram s (sampleExternal s) ∧ KeepsDmem s (sampleExternal s) ∧ KeepsHidden s (sampleExternal s) ∧
      (sampleExternal s).diags = s.diags) ∧
    ((s.cycle, true) ∉ s.extSched → sampleExternal s = s)

/-- A BUSY disk tick counts down by one; on reaching zero it clears diskcmd and diskstatus and sets irq1status; the command
register, whatever its value, has no effect and no data moves; nothing else changes (R241). -/
def Obligations.BusyDiskCountsDownAndCompletes : Prop :=
  ∀ s : State, 0 < s.diskRemaining →
    (tickDisk s).diskRemaining = s.diskRemaining - 1 ∧
    (∀ r : IoReg, (tickDisk s).ioAt r =
      if s.diskRemaining = 1 then
        (if r = .diskcmd ∨ r = .diskstatus then 0 else if r = .irq1status then 1 else s.ioAt r)
      else s.ioAt r) ∧
    KeepsDmem s (tickDisk s) ∧ (∀ a, (tickDisk s).disk.read a = s.disk.read a) ∧ (tickDisk s).diags = s.diags ∧
    KeepsProgram s (tickDisk s) ∧ (∀ a, (tickDisk s).mon.read a = s.mon.read a) ∧
    ∀ v : Word, (tickDisk (s.ioPut .diskcmd v)).diskRemaining = (tickDisk s).diskRemaining

/-- A READY disk tick: no command, nothing; 1 or 2 with a sector below 128, the transfer with its effect on data memory, disk
and reports, then diskstatus 1, the counter 1024 and diskcmd kept, nothing else changed; a sector from 128 on, only
DiskSector leaves; any other command, only DiskCmd leaves (R242). -/
def Obligations.ReadyDiskDispatchesOnCommand : Prop :=
  ∀ s : State, s.diskRemaining = 0 →
    (s.ioAt .diskcmd = 0 → tickDisk s = s) ∧
    ((s.ioAt .diskcmd = 1 ∨ s.ioAt .diskcmd = 2) → (s.ioAt .disksector).toNat < 128 →
      (tickDisk s).diskRemaining = 1024 ∧
      (∀ r : IoReg, (tickDisk s).ioAt r = if r = .diskstatus then 1 else s.ioAt r) ∧
      KeepsProgram s (tickDisk s) ∧ (∀ a, (tickDisk s).mon.read a = s.mon.read a) ∧
      (s.ioAt .diskcmd = 1 →
        (tickDisk s).dmem = (readSector (s.ioAt .disksector).toNat (s.ioAt .diskbuffer) s).dmem ∧
        (tickDisk s).diags = (readSector (s.ioAt .disksector).toNat (s.ioAt .diskbuffer) s).diags ∧
        (tickDisk s).disk = s.disk) ∧
      (s.ioAt .diskcmd = 2 →
        (tickDisk s).disk = (writeSector (s.ioAt .disksector).toNat (s.ioAt .diskbuffer) s).disk ∧
        (tickDisk s).diags = (writeSector (s.ioAt .disksector).toNat (s.ioAt .diskbuffer) s).diags ∧
        (tickDisk s).dmem = s.dmem)) ∧
    ((s.ioAt .diskcmd = 1 ∨ s.ioAt .diskcmd = 2) → 128 ≤ (s.ioAt .disksector).toNat →
      tickDisk s = s.report (.diskSector (s.ioAt .disksector))) ∧
    (s.ioAt .diskcmd ≠ 0 → s.ioAt .diskcmd ≠ 1 → s.ioAt .diskcmd ≠ 2 →
      tickDisk s = s.report (.diskCmd (s.ioAt .diskcmd)))

/-- `ReadSector`: word j of the buffer becomes bytes 4j to 4j + 3 of the sector, most significant first, its old content
lost; words outside the buffer keep theirs, there is no wrap past the end of memory; the disk is not modified; and an
out-of-range word is reported once per byte for its read and once for its write (R243, R92). -/
def Obligations.ReadSectorNetEffect : Prop :=
  ∀ (s : State) (sec : Nat) (buf : Word), sec < 128 → buf.toNat < 4096 →
    (∀ j, j < 128 → buf.toNat + j < 4096 →
      ((readSector sec buf s).dmem.read (buf.toNat + j)).toNat = sectorWord s sec j) ∧
    (∀ a, (a < buf.toNat ∨ buf.toNat + 128 ≤ a ∨ 4096 ≤ a) →
      (readSector sec buf s).dmem.read a = s.dmem.read a) ∧
    KeepsHidden s (readSector sec buf s) ∧ (readSector sec buf s).pc = s.pc ∧
    KeepsRegs s (readSector sec buf s) ∧ KeepsFlags s (readSector sec buf s) ∧ KeepsIo s (readSector sec buf s) ∧
    (readSector sec buf s).diags = transferReports buf 2 ++ s.diags

/-- `WriteSector`: bytes 4j to 4j + 3 of the sector become word j of the buffer, most significant first, zero where that word
is out of range; no other byte of the disk and no word of memory changes; an out-of-range word is reported once per byte
(R244, R92; the out-of-range clause is the spec's inference from R76 and decision D22, log entry 12). -/
def Obligations.WriteSectorNetEffect : Prop :=
  ∀ (s : State) (sec : Nat) (buf : Word), sec < 128 → buf.toNat < 4096 →
    (∀ j, j < 128 →
      sectorWord (writeSector sec buf s) sec j =
        if buf.toNat + j < 4096 then (s.dmem.read (buf.toNat + j)).toNat else 0) ∧
    (∀ a, (a < sec * 512 ∨ sec * 512 + 512 ≤ a) → (writeSector sec buf s).disk.read a = s.disk.read a) ∧
    KeepsDmem s (writeSector sec buf s) ∧ KeepsRegs s (writeSector sec buf s) ∧
    (writeSector sec buf s).pc = s.pc ∧ (∀ a, (writeSector sec buf s).mon.read a = s.mon.read a) ∧
    KeepsFlags s (writeSector sec buf s) ∧ KeepsIo s (writeSector sec buf s) ∧
    (writeSector sec buf s).diags = transferReports buf 1 ++ s.diags

/-- Over any run: while the machine has not halted, an operation accepted with counter c stays BUSY for exactly c cycles,
whatever instructions execute; nothing shortens or extends it (R241, R246, R300; decision D21, log entry 12). -/
def Obligations.DiskLatencyRunsItsFullLength : Prop :=
  ∀ (n : Nat) (s t : State), n ≤ s.diskRemaining → Sys2Proof.core.run n s = .next t → t.halted = false →
    t.diskRemaining = s.diskRemaining - n

/-- Step 5: an enabled pending line outside a handler is taken: irqreturn gets pc, pc gets irqhandler, the ISR flag is set and
nothing else changes; otherwise nothing changes (R250; decision D27). Slots are one bit wide by the invariant. -/
def Obligations.DispatcherTakesEnabledPendingLine : Prop :=
  ∀ s : State, s.Inv →
    (SomeLinePending s ∧ s.isr = false →
      ((dispatchInterrupt s).ioAt .irqreturn).toNat = s.pc.toNat ∧
      (dispatchInterrupt s).pc.toNat = (s.ioAt .irqhandler).toNat ∧ (dispatchInterrupt s).isr = true ∧
      (∀ r : IoReg, r ≠ .irqreturn → (dispatchInterrupt s).ioAt r = s.ioAt r) ∧
      (dispatchInterrupt s).halted = s.halted ∧ KeepsRegs s (dispatchInterrupt s) ∧
      KeepsDmem s (dispatchInterrupt s) ∧ KeepsHidden s (dispatchInterrupt s) ∧
      (dispatchInterrupt s).diags = s.diags) ∧
    (¬ (SomeLinePending s ∧ s.isr = false) → dispatchInterrupt s = s)

/-- Inside a handler step 5 does nothing, whatever the enable and status bits are, and only `reti` ends the handler (R252). -/
def Obligations.NoNestingUntilReti : Prop :=
  (∀ s : State, s.isr = true → dispatchInterrupt s = s) ∧
  (∀ (i : Instr) (s t : State), s.isr = true → exec i s = .next t → t.isr = false → ∃ f, i = .reti f)

/-- Taking an interrupt and then executing `reti` resumes exactly where the program was: pc, the ISR flag and everything but
irqreturn are as before the entry (R250, R254). -/
def Obligations.ReturnResumesInterruptedProgram : Prop :=
  ∀ (s : State) (f : Fields), s.isr = false →
    ∃ t, exec (.reti f) s.takeInterrupt = .next t ∧ t.pc = s.pc ∧ t.isr = false ∧ t.halted = s.halted ∧ KeepsRegs s t ∧
      (∀ r : IoReg, r ≠ .irqreturn → t.ioAt r = s.ioAt r) ∧ KeepsDmem s t ∧ KeepsHidden s t ∧ t.diags = s.diags

/-- A line that is enabled and pending outside a handler is taken in the very next cycle, before another instruction of the
program: irqreturn holds the program's pc and execution is at the handler (R250, R254, R294, R295). -/
def Obligations.PendingLineIsTakenInNextCycle : Prop :=
  ∀ s : State, s.Inv → s.isr = false → SomeLinePending s →
    (executeState s).isr = true ∧ ((executeState s).ioAt .irqreturn).toNat = s.pc.toNat ∧
    (executeState s).pc.toNat = (s.ioAt .irqhandler).toNat

/-- A status bit that is 1 stays 1 through a whole cycle unless the cycle's instruction is an `out` to that slot of a value
whose bit 0 is 0: neither the dispatcher nor `reti` nor a device clears it (R226). -/
def Obligations.StatusBitsStayUntilOutClears : Prop :=
  ∀ (s t : State) (r : IoReg), isStatusSlot r → s.halted = false → s.ioAt r = 1 → step s = .next t →
    t.ioAt r = 1 ∨
    ∃ f, decode (fetchedWord s) = .instr (.out f) ∧
      ((executeState s).reg f.rs + (executeState s).reg f.rt).toNat = r.index.val ∧
      ((executeState s).reg f.rm).toNat % 2 = 0

/-- Step 6: with monitorcmd 1 the pixel at row address / 256, column address mod 256 gets the data byte when the row is
inside the buffer, MonAddr leaves when it is not, and the command is cleared in both cases; no other pixel or slot, no
register, flag, data word or disk byte changes; with any other command nothing changes. The earlier steps of the cycle do
not bear on it: the pixels the cycle leaves are those of the slots as the cycle before left them (R260). -/
def Obligations.MonitorServiceWritesPixelAndClearsCommand : Prop :=
  (∀ s : State, s.ioAt .monitorcmd ≠ 1 → serviceMonitor s = s) ∧
  (∀ s : State, s.ioAt .monitorcmd = 1 →
    (∀ r : IoReg, (serviceMonitor s).ioAt r = if r = .monitorcmd then 0 else s.ioAt r) ∧
    KeepsProgram s (serviceMonitor s) ∧ KeepsDmem s (serviceMonitor s) ∧
    (∀ a, (serviceMonitor s).disk.read a = s.disk.read a) ∧ (serviceMonitor s).diskRemaining = s.diskRemaining ∧
    ((s.ioAt .monitoraddr).toNat / 256 < 256 →
      (serviceMonitor s).diags = s.diags ∧
      ∀ row col, row < 256 → col < 256 → ((serviceMonitor s).pixel row col).toNat =
        if row = (s.ioAt .monitoraddr).toNat / 256 ∧ col = (s.ioAt .monitoraddr).toNat % 256
        then (s.ioAt .monitordata).toNat % 256 else (s.pixel row col).toNat) ∧
    (256 ≤ (s.ioAt .monitoraddr).toNat / 256 →
      (serviceMonitor s).diags = .monAddr (s.ioAt .monitoraddr) :: s.diags ∧
      ∀ a, (serviceMonitor s).mon.read a = s.mon.read a)) ∧
  (∀ s : State, ∀ a, (executeState s).mon.read a = (serviceMonitor s).mon.read a)

/-! ### Reset, launch and the invariant -/

/-- The state right after reset, as R280's table gives it: the registers by R25, the rest by the spec's decision D19
(log entry 11), memories zero where no image is supplied (R12, D32). -/
def Obligations.ResetStateIsAllZero : Prop :=
  (∀ r, State.reset.reg r = 0) ∧ State.reset.pc = 0 ∧ State.reset.isr = false ∧ State.reset.halted = false ∧
  (∀ r, State.reset.ioAt r = 0) ∧ State.reset.diskRemaining = 0 ∧ State.reset.cycle = 0 ∧
  (∀ a, State.reset.dmem.read a = 0) ∧ (∀ sec b, State.reset.diskByte sec b = 0) ∧
  (∀ r c, State.reset.pixel r c = 0) ∧ (∀ a, State.reset.imem.read a = 0)

/-- The invariant holds at reset. -/
def Obligations.ResetSatisfiesInvariant : Prop := State.reset.Inv

/-- Every step keeps the invariant: the bank stays masked to its widths and its reserved slots zero, the counter in range,
the memories canonical and inside their spaces, one trace record per cycle, every diagnostic justified (so DiskSector
and MonAddr never leave) (R29, R49, R55 to R60, R136, R220, R245, R260). -/
def Obligations.StepKeepsInvariant : Prop :=
  ∀ s t : State, s.Inv → step s = .next t → t.Inv

/-- A launched machine satisfies the invariant and holds the images, zero where nothing was supplied (R12, R282; zero fill
is decision D32, log entry 11). -/
def Obligations.LaunchHoldsImages : Prop :=
  ∀ (imem : List Slot) (dmem : List Word) (disk : List Byte) (sched : List (Nat × Bool)),
    (State.launch imem dmem disk sched).Inv ∧
    (∀ a, a < 4096 → (State.launch imem dmem disk sched).imem.read a = imem.getD a 0) ∧
    (∀ a, a < 4096 → (State.launch imem dmem disk sched).dmem.read a = dmem.getD a 0) ∧
    (∀ a, a < 65536 → (State.launch imem dmem disk sched).disk.read a = disk.getD a 0) ∧
    (State.launch imem dmem disk sched).pc = 0 ∧ (State.launch imem dmem disk sched).extSched = sched
end

