-- ==== Sys2Proof/Laws/PerInstr.lean ====
section
/-! SUPPORT. Per-instruction facts about the encoding: family OpcodeField, the opcode field of an encoded
instruction is its row's opcode number (spec/30_encoding.md R104), one lemma per constructor. -/

namespace Sys2Proof.Laws.OpcodeField

/-- Bits 47..40 of the encoded instruction are the table's opcode number, which is at most 21. -/
def Statement (i : Instr) : Prop := (opcodeOf (encode i)).toNat = i.opcode ∧ i.opcode ≤ 21

theorem immBits_lt (v : Int) : immBits v < 4096 := by unfold immBits; omega

theorem opcodeOf_encodeFields {n : Nat} (hn : n < 256) (f : Fields) : (opcodeOf (encodeFields n f)).toNat = n := by
  rw [opcodeOf, encodeFields, BitVec.extractLsb'_toNat, BitVec.toNat_ofNat, Nat.shiftRight_eq_div_pow]
  have hi := immBits_lt f.imm1
  have hj := immBits_lt f.imm2
  generalize immBits f.imm1 = i at hi ⊢
  generalize immBits f.imm2 = j at hj ⊢
  have hd := f.rd.isLt
  have hs := f.rs.isLt
  have ht := f.rt.isLt
  have hm := f.rm.isLt
  omega

theorem add (f : Fields) : Statement (.add f) := ⟨opcodeOf_encodeFields (by simp [Instr.opcode]) f, by simp [Instr.opcode]⟩
theorem sub (f : Fields) : Statement (.sub f) := ⟨opcodeOf_encodeFields (by simp [Instr.opcode]) f, by simp [Instr.opcode]⟩
theorem mac (f : Fields) : Statement (.mac f) := ⟨opcodeOf_encodeFields (by simp [Instr.opcode]) f, by simp [Instr.opcode]⟩
theorem and (f : Fields) : Statement (.and f) := ⟨opcodeOf_encodeFields (by simp [Instr.opcode]) f, by simp [Instr.opcode]⟩
theorem or (f : Fields) : Statement (.or f) := ⟨opcodeOf_encodeFields (by simp [Instr.opcode]) f, by simp [Instr.opcode]⟩
theorem xor (f : Fields) : Statement (.xor f) := ⟨opcodeOf_encodeFields (by simp [Instr.opcode]) f, by simp [Instr.opcode]⟩
theorem sll (f : Fields) : Statement (.sll f) := ⟨opcodeOf_encodeFields (by simp [Instr.opcode]) f, by simp [Instr.opcode]⟩
theorem sra (f : Fields) : Statement (.sra f) := ⟨opcodeOf_encodeFields (by simp [Instr.opcode]) f, by simp [Instr.opcode]⟩
theorem srl (f : Fields) : Statement (.srl f) := ⟨opcodeOf_encodeFields (by simp [Instr.opcode]) f, by simp [Instr.opcode]⟩
theorem beq (f : Fields) : Statement (.beq f) := ⟨opcodeOf_encodeFields (by simp [Instr.opcode]) f, by simp [Instr.opcode]⟩
theorem bne (f : Fields) : Statement (.bne f) := ⟨opcodeOf_encodeFields (by simp [Instr.opcode]) f, by simp [Instr.opcode]⟩
theorem blt (f : Fields) : Statement (.blt f) := ⟨opcodeOf_encodeFields (by simp [Instr.opcode]) f, by simp [Instr.opcode]⟩
theorem bgt (f : Fields) : Statement (.bgt f) := ⟨opcodeOf_encodeFields (by simp [Instr.opcode]) f, by simp [Instr.opcode]⟩
theorem ble (f : Fields) : Statement (.ble f) := ⟨opcodeOf_encodeFields (by simp [Instr.opcode]) f, by simp [Instr.opcode]⟩
theorem bge (f : Fields) : Statement (.bge f) := ⟨opcodeOf_encodeFields (by simp [Instr.opcode]) f, by simp [Instr.opcode]⟩
theorem jal (f : Fields) : Statement (.jal f) := ⟨opcodeOf_encodeFields (by simp [Instr.opcode]) f, by simp [Instr.opcode]⟩
theorem lw (f : Fields) : Statement (.lw f) := ⟨opcodeOf_encodeFields (by simp [Instr.opcode]) f, by simp [Instr.opcode]⟩
theorem sw (f : Fields) : Statement (.sw f) := ⟨opcodeOf_encodeFields (by simp [Instr.opcode]) f, by simp [Instr.opcode]⟩
theorem reti (f : Fields) : Statement (.reti f) := ⟨opcodeOf_encodeFields (by simp [Instr.opcode]) f, by simp [Instr.opcode]⟩
theorem in_ (f : Fields) : Statement (.in_ f) := ⟨opcodeOf_encodeFields (by simp [Instr.opcode]) f, by simp [Instr.opcode]⟩
theorem out (f : Fields) : Statement (.out f) := ⟨opcodeOf_encodeFields (by simp [Instr.opcode]) f, by simp [Instr.opcode]⟩
theorem halt (f : Fields) : Statement (.halt f) := ⟨opcodeOf_encodeFields (by simp [Instr.opcode]) f, by simp [Instr.opcode]⟩

end Sys2Proof.Laws.OpcodeField
end

