-- ==== Sys2Proof/Laws/Decode.lean ====
section
/-! SUPPORT. The fields of a word as arithmetic on its number, and what encoding and decoding do to each other's
fields (spec/30_encoding.md R101, R102). The powers of two are passed as decimal numerals, so that no proof evaluates one. -/

namespace Sys2Proof

/-- A field of a word, by arithmetic. -/
theorem field_toNat (w : Slot) (lo len p l : Nat) (hp : 2 ^ lo = p) (hl : 2 ^ len = l) :
    (w.extractLsb' lo len).toNat = w.toNat / p % l := by
  rw [BitVec.extractLsb'_toNat, Nat.shiftRight_eq_div_pow, hp, hl]

theorem regField_val (w : Slot) (lo p : Nat) (hp : 2 ^ lo = p) : (regField w lo).val = w.toNat / p % 16 := by
  rw [← field_toNat w lo 4 p 16 hp rfl]
  rfl

/-- The opcode field is the quotient of the word by 2^40. -/
theorem opcodeOf_toNat (w : Slot) : (opcodeOf w).toNat = w.toNat / 0x10000000000 := by
  rw [opcodeOf, field_toNat w 40 8 0x10000000000 256 rfl rfl]
  have : w.toNat < 281474976710656 := w.isLt
  omega

/-- The fields of a decoded word are in range. -/
theorem fieldsOf_wellFormed (w : Slot) : (fieldsOf w).wellFormed = true := by
  have h (lo : Nat) : immInRange (immField w lo) = true := by
    have h1 := (w.extractLsb' lo 12).toInt_lt
    have h2 := (w.extractLsb' lo 12).le_toInt
    unfold immInRange immField
    rw [Bool.and_eq_true, decide_eq_true_iff, decide_eq_true_iff]
    omega
  simp [Fields.wellFormed, fieldsOf, h]

/-- A 12-bit field that holds an immediate's bits reads as that immediate (R102). -/
theorem toInt_of_immBits (x : BitVec 12) (v : Int) (hx : x.toNat = immBits v) (h : immInRange v = true) : x.toInt = v := by
  simp only [immInRange, Bool.and_eq_true, decide_eq_true_eq] at h
  rw [BitVec.toInt_eq_toNat_cond, hx, immBits]
  split <;> omega

/-- The bits of a field read as two's complement are the field. -/
theorem immBits_toInt (x : BitVec 12) : immBits x.toInt = x.toNat := by
  unfold immBits
  have := x.isLt
  rw [BitVec.toInt_eq_toNat_cond]
  split <;> omega

/-- The number of an encoded word: R101's sum, with no carry out of any field. -/
theorem encodeFields_toNat {n : Nat} (hn : n < 256) (f : Fields) :
    (encodeFields n f).toNat = n * 0x10000000000 + f.rd.val * 0x1000000000 + f.rs.val * 0x100000000
      + f.rt.val * 0x10000000 + f.rm.val * 0x1000000 + immBits f.imm1 * 0x1000 + immBits f.imm2 := by
  rw [encodeFields, BitVec.toNat_ofNat]
  have hi := Laws.OpcodeField.immBits_lt f.imm1
  have hj := Laws.OpcodeField.immBits_lt f.imm2
  generalize immBits f.imm1 = i at hi ⊢
  generalize immBits f.imm2 = j at hj ⊢
  have hd := f.rd.isLt
  have hs := f.rs.isLt
  have ht := f.rt.isLt
  have hm := f.rm.isLt
  omega

/-- The opcode map read backwards. -/
theorem instrOf_opcode (i : Instr) : instrOf i.opcode i.fields = some i := by cases i <;> rfl

theorem opcode_le (i : Instr) : i.opcode ≤ 21 := by cases i <;> simp [Instr.opcode]

/-- The opcode map is defined on 0 to 21. -/
theorem instrOf_defined {n : Nat} (hn : n ≤ 21) (f : Fields) :
    ∃ i, instrOf n f = some i ∧ i.opcode = n ∧ i.fields = f := by
  interval_cases n <;> exact ⟨_, rfl, rfl, rfl⟩

/-- The opcode map is undefined from 22 on. -/
theorem instrOf_none {n : Nat} (hn : 22 ≤ n) (f : Fields) : instrOf n f = none := by
  unfold instrOf
  split <;> first | rfl | omega

/-- What the decoder answers when the opcode map is defined. -/
theorem decode_of_instrOf {w : Slot} {i : Instr} (h : instrOf (opcodeOf w).toNat (fieldsOf w) = some i) :
    decode w = .instr i := by
  unfold decode
  rw [h]

/-- What the decoder answers when it is not. -/
theorem decode_of_none {w : Slot} (h : instrOf (opcodeOf w).toNat (fieldsOf w) = none) :
    decode w = .unsupported (opcodeOf w) := by
  unfold decode
  rw [h]

end Sys2Proof
end

