-- ==== Sys2Proof/Laws/Memory.lean ====
section
/-! SUPPORT. The laws of one address space: what a read gives after a write, that every operation keeps the
canonical form, and that canonical memories with equal contents are equal lists. -/

namespace Sys2Proof.Machine

variable {w : Nat}

/-! ### Reads after updates -/

@[simp] theorem Memory.read_nil (a : Nat) : Memory.read ([] : Memory w) a = 0 := rfl

theorem Memory.read_cons (k : Nat) (x : BitVec w) (m : Memory w) (a : Nat) :
    Memory.read ((k, x) :: m) a = if k = a then x else Memory.read m a := rfl

theorem Memory.read_erase (m : Memory w) (a b : Nat) :
    (Memory.erase m a).read b = if b = a then 0 else Memory.read m b := by
  induction m with
  | nil => simp [Memory.erase]
  | cons e rest ih =>
    obtain ⟨k, x⟩ := e
    by_cases hka : k = a
    · simp only [Memory.erase, hka, if_true, ih, Memory.read_cons]
      split_ifs <;> simp_all
    · simp only [Memory.erase, hka, if_false, ih, Memory.read_cons]
      split_ifs <;> simp_all

theorem Memory.read_insert (m : Memory w) (a b : Nat) (v : BitVec w) :
    (Memory.insert m a v).read b = if b = a then v else Memory.read m b := by
  induction m with
  | nil => simp only [Memory.insert, Memory.read_cons, eq_comm]
  | cons e rest ih =>
    obtain ⟨k, x⟩ := e
    simp only [Memory.insert, Memory.read_cons]
    split_ifs <;> simp only [Memory.read_cons, ih] <;> split_ifs <;> first | rfl | omega

/-- Read after write, at the same place and at any other, in every memory (canonical or not). -/
theorem Memory.read_write (m : Memory w) (a b : Nat) (v : BitVec w) :
    (Memory.write m a v).read b = if b = a then v else Memory.read m b := by
  unfold Memory.write Memory.unlisted
  split_ifs with hv hb hb
  · simp [Memory.read_erase, hb, hv]
  · simp [Memory.read_erase, hb]
  · simp [Memory.read_insert, hb]
  · simp [Memory.read_insert, hb]

@[simp] theorem Memory.read_write_same (m : Memory w) (a : Nat) (v : BitVec w) :
    (Memory.write m a v).read a = v := by
  simp [Memory.read_write]

theorem Memory.read_write_other (m : Memory w) (a b : Nat) (v : BitVec w) (h : b ≠ a) :
    (Memory.write m a v).read b = Memory.read m b := by
  simp [Memory.read_write, h]

/-! ### The canonical form -/

@[simp] theorem Memory.wfFrom_nil (hi lo : Nat) : Memory.wfFrom hi lo ([] : Memory w) = true := rfl

theorem Memory.wfFrom_cons (hi lo k : Nat) (x : BitVec w) (m : Memory w) :
    Memory.wfFrom hi lo ((k, x) :: m) = true ↔
      lo ≤ k ∧ k < hi ∧ x ≠ 0 ∧ Memory.wfFrom hi (k + 1) m = true := by
  simp only [Memory.wfFrom, Memory.unlisted, Bool.and_eq_true, decide_eq_true_eq, and_assoc, bne_iff_ne]

theorem Memory.wfFrom_mono {hi lo lo' : Nat} {m : Memory w} (h : Memory.wfFrom hi lo m = true) (hl : lo' ≤ lo) :
    Memory.wfFrom hi lo' m = true := by
  cases m with
  | nil => rfl
  | cons e rest =>
    obtain ⟨k, x⟩ := e
    rw [Memory.wfFrom_cons] at *
    exact ⟨by omega, h.2⟩

theorem Memory.wfFrom_erase {hi : Nat} (m : Memory w) (a : Nat) :
    ∀ lo, Memory.wfFrom hi lo m = true → Memory.wfFrom hi lo (Memory.erase m a) = true := by
  induction m with
  | nil => intro lo h; exact h
  | cons e rest ih =>
    obtain ⟨k, x⟩ := e
    intro lo h
    rw [Memory.wfFrom_cons] at h
    simp only [Memory.erase]
    split_ifs
    · exact Memory.wfFrom_mono (ih (k + 1) h.2.2.2) (by omega)
    · rw [Memory.wfFrom_cons]
      exact ⟨h.1, h.2.1, h.2.2.1, ih (k + 1) h.2.2.2⟩

theorem Memory.wfFrom_insert {hi : Nat} (m : Memory w) (a : Nat) (v : BitVec w) (ha : a < hi) (hv : v ≠ 0) :
    ∀ lo, lo ≤ a → Memory.wfFrom hi lo m = true → Memory.wfFrom hi lo (Memory.insert m a v) = true := by
  induction m with
  | nil => intro lo hl _; rw [Memory.insert, Memory.wfFrom_cons]; exact ⟨hl, ha, hv, rfl⟩
  | cons e rest ih =>
    obtain ⟨k, x⟩ := e
    intro lo hl h
    rw [Memory.wfFrom_cons] at h
    simp only [Memory.insert]
    split_ifs with h1 h2
    · rw [Memory.wfFrom_cons, Memory.wfFrom_cons]
      exact ⟨hl, ha, hv, by omega, h.2⟩
    · rw [Memory.wfFrom_cons]
      exact ⟨hl, ha, hv, h2 ▸ h.2.2.2⟩
    · rw [Memory.wfFrom_cons]
      exact ⟨h.1, h.2.1, h.2.2.1, ih (k + 1) (by omega) h.2.2.2⟩

/-- Every write inside the space keeps the canonical form. -/
theorem Memory.wf_write {size : Nat} {m : Memory w} (h : m.wf size = true) {a : Nat} (ha : a < size) (v : BitVec w) :
    (m.write a v).wf size = true := by
  unfold Memory.write Memory.unlisted
  split_ifs with hv
  · exact Memory.wfFrom_erase m a 0 h
  · exact Memory.wfFrom_insert m a v ha hv 0 (Nat.zero_le a) h

/-- Writing an image that fits keeps the canonical form. -/
theorem Memory.wf_writeAll {size : Nat} (vs : List (BitVec w)) :
    ∀ {m : Memory w} {a : Nat}, m.wf size = true → a + vs.length ≤ size → (m.writeAll a vs).wf size = true := by
  induction vs with
  | nil => intro m a h _; exact h
  | cons v rest ih =>
    intro m a h hs
    simp only [List.length_cons] at hs
    exact ih (Memory.wf_write h (by omega) v) (by omega)

theorem Memory.read_eq_zero_of_lt {hi : Nat} {m : Memory w} {lo a : Nat} (h : Memory.wfFrom hi lo m = true) (ha : a < lo) :
    m.read a = 0 := by
  induction m generalizing lo with
  | nil => rfl
  | cons e rest ih =>
    obtain ⟨k, x⟩ := e
    rw [Memory.wfFrom_cons] at h
    rw [Memory.read_cons, if_neg (by omega)]
    exact ih h.2.2.2 (by omega)

/-- Canonical memories with equal contents are equal. -/
theorem Memory.ext_of_wf {size : Nat} {m n : Memory w} (hm : m.wf size = true) (hn : n.wf size = true)
    (h : ∀ a, m.read a = n.read a) : m = n := by
  suffices H : ∀ (m n : Memory w) (lo lo' : Nat), Memory.wfFrom size lo m = true → Memory.wfFrom size lo' n = true →
      (∀ a, m.read a = n.read a) → m = n from H m n 0 0 hm hn h
  intro m
  induction m with
  | nil =>
    intro n lo lo' _ hn h
    cases n with
    | nil => rfl
    | cons e rest =>
      obtain ⟨k, x⟩ := e
      rw [Memory.wfFrom_cons] at hn
      have := h k
      simp [Memory.read_cons] at this
      exact absurd this.symm hn.2.2.1
  | cons e rest ih =>
    obtain ⟨k, x⟩ := e
    intro n lo lo' hm hn h
    rw [Memory.wfFrom_cons] at hm
    cases n with
    | nil =>
      have := h k
      simp [Memory.read_cons] at this
      exact absurd this hm.2.2.1
    | cons e' rest' =>
      obtain ⟨k', x'⟩ := e'
      rw [Memory.wfFrom_cons] at hn
      have hk : k = k' := by
        rcases Nat.lt_trichotomy k k' with hlt | heq | hgt
        · have := h k
          rw [Memory.read_cons, if_pos rfl, Memory.read_cons, if_neg (by omega),
            Memory.read_eq_zero_of_lt hn.2.2.2 (by omega)] at this
          exact absurd this hm.2.2.1
        · exact heq
        · have := h k'
          rw [Memory.read_cons, if_neg (by omega), Memory.read_cons, if_pos rfl,
            Memory.read_eq_zero_of_lt hm.2.2.2 (by omega)] at this
          exact absurd this.symm hn.2.2.1
      subst hk
      have hx : x = x' := by simpa [Memory.read_cons] using h k
      subst hx
      have hrest : rest = rest' := by
        apply ih rest' (k + 1) (k + 1) hm.2.2.2 hn.2.2.2
        intro a
        by_cases hka : k = a
        · subst hka
          rw [Memory.read_eq_zero_of_lt hm.2.2.2 (by omega), Memory.read_eq_zero_of_lt hn.2.2.2 (by omega)]
        · simpa [Memory.read_cons, hka] using h a
      rw [hrest]

end Sys2Proof.Machine
end

