-- ==== Sys2Proof/Laws/State.lean ====
section
/-! SUPPORT. What each setter of Machine/Ops.lean does to each field of the state, and to the two register
accessors: one lemma per field per update, so that no later proof unfolds a record update. -/

namespace Sys2Proof.Machine

variable (s : State)

/-! ### setRegs -/

@[simp] theorem State.setRegs_regs (v : Vector Word 16) : (s.setRegs v).regs = v := rfl
@[simp] theorem State.setRegs_pc (v : Vector Word 16) : (s.setRegs v).pc = s.pc := rfl
@[simp] theorem State.setRegs_isr (v : Vector Word 16) : (s.setRegs v).isr = s.isr := rfl
@[simp] theorem State.setRegs_halted (v : Vector Word 16) : (s.setRegs v).halted = s.halted := rfl
@[simp] theorem State.setRegs_io (v : Vector Word 16) : (s.setRegs v).io = s.io := rfl
@[simp] theorem State.setRegs_diskRemaining (v : Vector Word 16) : (s.setRegs v).diskRemaining = s.diskRemaining := rfl
@[simp] theorem State.setRegs_dmem (v : Vector Word 16) : (s.setRegs v).dmem = s.dmem := rfl
@[simp] theorem State.setRegs_disk (v : Vector Word 16) : (s.setRegs v).disk = s.disk := rfl
@[simp] theorem State.setRegs_mon (v : Vector Word 16) : (s.setRegs v).mon = s.mon := rfl
@[simp] theorem State.setRegs_imem (v : Vector Word 16) : (s.setRegs v).imem = s.imem := rfl
@[simp] theorem State.setRegs_extSched (v : Vector Word 16) : (s.setRegs v).extSched = s.extSched := rfl
@[simp] theorem State.setRegs_cycle (v : Vector Word 16) : (s.setRegs v).cycle = s.cycle := rfl
@[simp] theorem State.setRegs_trace (v : Vector Word 16) : (s.setRegs v).trace = s.trace := rfl
@[simp] theorem State.setRegs_diags (v : Vector Word 16) : (s.setRegs v).diags = s.diags := rfl
@[simp] theorem State.setRegs_ioAt (v : Vector Word 16) (r : IoReg) : (s.setRegs v).ioAt r = s.ioAt r := rfl

/-! ### setPc -/

@[simp] theorem State.setPc_regs (v : Pc) : (s.setPc v).regs = s.regs := rfl
@[simp] theorem State.setPc_pc (v : Pc) : (s.setPc v).pc = v := rfl
@[simp] theorem State.setPc_isr (v : Pc) : (s.setPc v).isr = s.isr := rfl
@[simp] theorem State.setPc_halted (v : Pc) : (s.setPc v).halted = s.halted := rfl
@[simp] theorem State.setPc_io (v : Pc) : (s.setPc v).io = s.io := rfl
@[simp] theorem State.setPc_diskRemaining (v : Pc) : (s.setPc v).diskRemaining = s.diskRemaining := rfl
@[simp] theorem State.setPc_dmem (v : Pc) : (s.setPc v).dmem = s.dmem := rfl
@[simp] theorem State.setPc_disk (v : Pc) : (s.setPc v).disk = s.disk := rfl
@[simp] theorem State.setPc_mon (v : Pc) : (s.setPc v).mon = s.mon := rfl
@[simp] theorem State.setPc_imem (v : Pc) : (s.setPc v).imem = s.imem := rfl
@[simp] theorem State.setPc_extSched (v : Pc) : (s.setPc v).extSched = s.extSched := rfl
@[simp] theorem State.setPc_cycle (v : Pc) : (s.setPc v).cycle = s.cycle := rfl
@[simp] theorem State.setPc_trace (v : Pc) : (s.setPc v).trace = s.trace := rfl
@[simp] theorem State.setPc_diags (v : Pc) : (s.setPc v).diags = s.diags := rfl
@[simp] theorem State.setPc_reg (v : Pc) (r : RegNum) : (s.setPc v).reg r = s.reg r := rfl
@[simp] theorem State.setPc_ioAt (v : Pc) (r : IoReg) : (s.setPc v).ioAt r = s.ioAt r := rfl

/-! ### setIsr -/

@[simp] theorem State.setIsr_regs (v : Bool) : (s.setIsr v).regs = s.regs := rfl
@[simp] theorem State.setIsr_pc (v : Bool) : (s.setIsr v).pc = s.pc := rfl
@[simp] theorem State.setIsr_isr (v : Bool) : (s.setIsr v).isr = v := rfl
@[simp] theorem State.setIsr_halted (v : Bool) : (s.setIsr v).halted = s.halted := rfl
@[simp] theorem State.setIsr_io (v : Bool) : (s.setIsr v).io = s.io := rfl
@[simp] theorem State.setIsr_diskRemaining (v : Bool) : (s.setIsr v).diskRemaining = s.diskRemaining := rfl
@[simp] theorem State.setIsr_dmem (v : Bool) : (s.setIsr v).dmem = s.dmem := rfl
@[simp] theorem State.setIsr_disk (v : Bool) : (s.setIsr v).disk = s.disk := rfl
@[simp] theorem State.setIsr_mon (v : Bool) : (s.setIsr v).mon = s.mon := rfl
@[simp] theorem State.setIsr_imem (v : Bool) : (s.setIsr v).imem = s.imem := rfl
@[simp] theorem State.setIsr_extSched (v : Bool) : (s.setIsr v).extSched = s.extSched := rfl
@[simp] theorem State.setIsr_cycle (v : Bool) : (s.setIsr v).cycle = s.cycle := rfl
@[simp] theorem State.setIsr_trace (v : Bool) : (s.setIsr v).trace = s.trace := rfl
@[simp] theorem State.setIsr_diags (v : Bool) : (s.setIsr v).diags = s.diags := rfl
@[simp] theorem State.setIsr_reg (v : Bool) (r : RegNum) : (s.setIsr v).reg r = s.reg r := rfl
@[simp] theorem State.setIsr_ioAt (v : Bool) (r : IoReg) : (s.setIsr v).ioAt r = s.ioAt r := rfl

/-! ### setHalted -/

@[simp] theorem State.setHalted_regs (v : Bool) : (s.setHalted v).regs = s.regs := rfl
@[simp] theorem State.setHalted_pc (v : Bool) : (s.setHalted v).pc = s.pc := rfl
@[simp] theorem State.setHalted_isr (v : Bool) : (s.setHalted v).isr = s.isr := rfl
@[simp] theorem State.setHalted_halted (v : Bool) : (s.setHalted v).halted = v := rfl
@[simp] theorem State.setHalted_io (v : Bool) : (s.setHalted v).io = s.io := rfl
@[simp] theorem State.setHalted_diskRemaining (v : Bool) : (s.setHalted v).diskRemaining = s.diskRemaining := rfl
@[simp] theorem State.setHalted_dmem (v : Bool) : (s.setHalted v).dmem = s.dmem := rfl
@[simp] theorem State.setHalted_disk (v : Bool) : (s.setHalted v).disk = s.disk := rfl
@[simp] theorem State.setHalted_mon (v : Bool) : (s.setHalted v).mon = s.mon := rfl
@[simp] theorem State.setHalted_imem (v : Bool) : (s.setHalted v).imem = s.imem := rfl
@[simp] theorem State.setHalted_extSched (v : Bool) : (s.setHalted v).extSched = s.extSched := rfl
@[simp] theorem State.setHalted_cycle (v : Bool) : (s.setHalted v).cycle = s.cycle := rfl
@[simp] theorem State.setHalted_trace (v : Bool) : (s.setHalted v).trace = s.trace := rfl
@[simp] theorem State.setHalted_diags (v : Bool) : (s.setHalted v).diags = s.diags := rfl
@[simp] theorem State.setHalted_reg (v : Bool) (r : RegNum) : (s.setHalted v).reg r = s.reg r := rfl
@[simp] theorem State.setHalted_ioAt (v : Bool) (r : IoReg) : (s.setHalted v).ioAt r = s.ioAt r := rfl

/-! ### setIo -/

@[simp] theorem State.setIo_regs (v : Vector Word 23) : (s.setIo v).regs = s.regs := rfl
@[simp] theorem State.setIo_pc (v : Vector Word 23) : (s.setIo v).pc = s.pc := rfl
@[simp] theorem State.setIo_isr (v : Vector Word 23) : (s.setIo v).isr = s.isr := rfl
@[simp] theorem State.setIo_halted (v : Vector Word 23) : (s.setIo v).halted = s.halted := rfl
@[simp] theorem State.setIo_io (v : Vector Word 23) : (s.setIo v).io = v := rfl
@[simp] theorem State.setIo_diskRemaining (v : Vector Word 23) : (s.setIo v).diskRemaining = s.diskRemaining := rfl
@[simp] theorem State.setIo_dmem (v : Vector Word 23) : (s.setIo v).dmem = s.dmem := rfl
@[simp] theorem State.setIo_disk (v : Vector Word 23) : (s.setIo v).disk = s.disk := rfl
@[simp] theorem State.setIo_mon (v : Vector Word 23) : (s.setIo v).mon = s.mon := rfl
@[simp] theorem State.setIo_imem (v : Vector Word 23) : (s.setIo v).imem = s.imem := rfl
@[simp] theorem State.setIo_extSched (v : Vector Word 23) : (s.setIo v).extSched = s.extSched := rfl
@[simp] theorem State.setIo_cycle (v : Vector Word 23) : (s.setIo v).cycle = s.cycle := rfl
@[simp] theorem State.setIo_trace (v : Vector Word 23) : (s.setIo v).trace = s.trace := rfl
@[simp] theorem State.setIo_diags (v : Vector Word 23) : (s.setIo v).diags = s.diags := rfl
@[simp] theorem State.setIo_reg (v : Vector Word 23) (r : RegNum) : (s.setIo v).reg r = s.reg r := rfl

/-! ### setDiskRemaining -/

@[simp] theorem State.setDiskRemaining_regs (v : Nat) : (s.setDiskRemaining v).regs = s.regs := rfl
@[simp] theorem State.setDiskRemaining_pc (v : Nat) : (s.setDiskRemaining v).pc = s.pc := rfl
@[simp] theorem State.setDiskRemaining_isr (v : Nat) : (s.setDiskRemaining v).isr = s.isr := rfl
@[simp] theorem State.setDiskRemaining_halted (v : Nat) : (s.setDiskRemaining v).halted = s.halted := rfl
@[simp] theorem State.setDiskRemaining_io (v : Nat) : (s.setDiskRemaining v).io = s.io := rfl
@[simp] theorem State.setDiskRemaining_diskRemaining (v : Nat) : (s.setDiskRemaining v).diskRemaining = v := rfl
@[simp] theorem State.setDiskRemaining_dmem (v : Nat) : (s.setDiskRemaining v).dmem = s.dmem := rfl
@[simp] theorem State.setDiskRemaining_disk (v : Nat) : (s.setDiskRemaining v).disk = s.disk := rfl
@[simp] theorem State.setDiskRemaining_mon (v : Nat) : (s.setDiskRemaining v).mon = s.mon := rfl
@[simp] theorem State.setDiskRemaining_imem (v : Nat) : (s.setDiskRemaining v).imem = s.imem := rfl
@[simp] theorem State.setDiskRemaining_extSched (v : Nat) : (s.setDiskRemaining v).extSched = s.extSched := rfl
@[simp] theorem State.setDiskRemaining_cycle (v : Nat) : (s.setDiskRemaining v).cycle = s.cycle := rfl
@[simp] theorem State.setDiskRemaining_trace (v : Nat) : (s.setDiskRemaining v).trace = s.trace := rfl
@[simp] theorem State.setDiskRemaining_diags (v : Nat) : (s.setDiskRemaining v).diags = s.diags := rfl
@[simp] theorem State.setDiskRemaining_reg (v : Nat) (r : RegNum) : (s.setDiskRemaining v).reg r = s.reg r := rfl
@[simp] theorem State.setDiskRemaining_ioAt (v : Nat) (r : IoReg) : (s.setDiskRemaining v).ioAt r = s.ioAt r := rfl

/-! ### setDmem -/

@[simp] theorem State.setDmem_regs (v : Memory 32) : (s.setDmem v).regs = s.regs := rfl
@[simp] theorem State.setDmem_pc (v : Memory 32) : (s.setDmem v).pc = s.pc := rfl
@[simp] theorem State.setDmem_isr (v : Memory 32) : (s.setDmem v).isr = s.isr := rfl
@[simp] theorem State.setDmem_halted (v : Memory 32) : (s.setDmem v).halted = s.halted := rfl
@[simp] theorem State.setDmem_io (v : Memory 32) : (s.setDmem v).io = s.io := rfl
@[simp] theorem State.setDmem_diskRemaining (v : Memory 32) : (s.setDmem v).diskRemaining = s.diskRemaining := rfl
@[simp] theorem State.setDmem_dmem (v : Memory 32) : (s.setDmem v).dmem = v := rfl
@[simp] theorem State.setDmem_disk (v : Memory 32) : (s.setDmem v).disk = s.disk := rfl
@[simp] theorem State.setDmem_mon (v : Memory 32) : (s.setDmem v).mon = s.mon := rfl
@[simp] theorem State.setDmem_imem (v : Memory 32) : (s.setDmem v).imem = s.imem := rfl
@[simp] theorem State.setDmem_extSched (v : Memory 32) : (s.setDmem v).extSched = s.extSched := rfl
@[simp] theorem State.setDmem_cycle (v : Memory 32) : (s.setDmem v).cycle = s.cycle := rfl
@[simp] theorem State.setDmem_trace (v : Memory 32) : (s.setDmem v).trace = s.trace := rfl
@[simp] theorem State.setDmem_diags (v : Memory 32) : (s.setDmem v).diags = s.diags := rfl
@[simp] theorem State.setDmem_reg (v : Memory 32) (r : RegNum) : (s.setDmem v).reg r = s.reg r := rfl
@[simp] theorem State.setDmem_ioAt (v : Memory 32) (r : IoReg) : (s.setDmem v).ioAt r = s.ioAt r := rfl

/-! ### setDisk -/

@[simp] theorem State.setDisk_regs (v : Memory 8) : (s.setDisk v).regs = s.regs := rfl
@[simp] theorem State.setDisk_pc (v : Memory 8) : (s.setDisk v).pc = s.pc := rfl
@[simp] theorem State.setDisk_isr (v : Memory 8) : (s.setDisk v).isr = s.isr := rfl
@[simp] theorem State.setDisk_halted (v : Memory 8) : (s.setDisk v).halted = s.halted := rfl
@[simp] theorem State.setDisk_io (v : Memory 8) : (s.setDisk v).io = s.io := rfl
@[simp] theorem State.setDisk_diskRemaining (v : Memory 8) : (s.setDisk v).diskRemaining = s.diskRemaining := rfl
@[simp] theorem State.setDisk_dmem (v : Memory 8) : (s.setDisk v).dmem = s.dmem := rfl
@[simp] theorem State.setDisk_disk (v : Memory 8) : (s.setDisk v).disk = v := rfl
@[simp] theorem State.setDisk_mon (v : Memory 8) : (s.setDisk v).mon = s.mon := rfl
@[simp] theorem State.setDisk_imem (v : Memory 8) : (s.setDisk v).imem = s.imem := rfl
@[simp] theorem State.setDisk_extSched (v : Memory 8) : (s.setDisk v).extSched = s.extSched := rfl
@[simp] theorem State.setDisk_cycle (v : Memory 8) : (s.setDisk v).cycle = s.cycle := rfl
@[simp] theorem State.setDisk_trace (v : Memory 8) : (s.setDisk v).trace = s.trace := rfl
@[simp] theorem State.setDisk_diags (v : Memory 8) : (s.setDisk v).diags = s.diags := rfl
@[simp] theorem State.setDisk_reg (v : Memory 8) (r : RegNum) : (s.setDisk v).reg r = s.reg r := rfl
@[simp] theorem State.setDisk_ioAt (v : Memory 8) (r : IoReg) : (s.setDisk v).ioAt r = s.ioAt r := rfl

/-! ### setMon -/

@[simp] theorem State.setMon_regs (v : Memory 8) : (s.setMon v).regs = s.regs := rfl
@[simp] theorem State.setMon_pc (v : Memory 8) : (s.setMon v).pc = s.pc := rfl
@[simp] theorem State.setMon_isr (v : Memory 8) : (s.setMon v).isr = s.isr := rfl
@[simp] theorem State.setMon_halted (v : Memory 8) : (s.setMon v).halted = s.halted := rfl
@[simp] theorem State.setMon_io (v : Memory 8) : (s.setMon v).io = s.io := rfl
@[simp] theorem State.setMon_diskRemaining (v : Memory 8) : (s.setMon v).diskRemaining = s.diskRemaining := rfl
@[simp] theorem State.setMon_dmem (v : Memory 8) : (s.setMon v).dmem = s.dmem := rfl
@[simp] theorem State.setMon_disk (v : Memory 8) : (s.setMon v).disk = s.disk := rfl
@[simp] theorem State.setMon_mon (v : Memory 8) : (s.setMon v).mon = v := rfl
@[simp] theorem State.setMon_imem (v : Memory 8) : (s.setMon v).imem = s.imem := rfl
@[simp] theorem State.setMon_extSched (v : Memory 8) : (s.setMon v).extSched = s.extSched := rfl
@[simp] theorem State.setMon_cycle (v : Memory 8) : (s.setMon v).cycle = s.cycle := rfl
@[simp] theorem State.setMon_trace (v : Memory 8) : (s.setMon v).trace = s.trace := rfl
@[simp] theorem State.setMon_diags (v : Memory 8) : (s.setMon v).diags = s.diags := rfl
@[simp] theorem State.setMon_reg (v : Memory 8) (r : RegNum) : (s.setMon v).reg r = s.reg r := rfl
@[simp] theorem State.setMon_ioAt (v : Memory 8) (r : IoReg) : (s.setMon v).ioAt r = s.ioAt r := rfl

/-! ### setImem -/

@[simp] theorem State.setImem_regs (v : Memory 48) : (s.setImem v).regs = s.regs := rfl
@[simp] theorem State.setImem_pc (v : Memory 48) : (s.setImem v).pc = s.pc := rfl
@[simp] theorem State.setImem_isr (v : Memory 48) : (s.setImem v).isr = s.isr := rfl
@[simp] theorem State.setImem_halted (v : Memory 48) : (s.setImem v).halted = s.halted := rfl
@[simp] theorem State.setImem_io (v : Memory 48) : (s.setImem v).io = s.io := rfl
@[simp] theorem State.setImem_diskRemaining (v : Memory 48) : (s.setImem v).diskRemaining = s.diskRemaining := rfl
@[simp] theorem State.setImem_dmem (v : Memory 48) : (s.setImem v).dmem = s.dmem := rfl
@[simp] theorem State.setImem_disk (v : Memory 48) : (s.setImem v).disk = s.disk := rfl
@[simp] theorem State.setImem_mon (v : Memory 48) : (s.setImem v).mon = s.mon := rfl
@[simp] theorem State.setImem_imem (v : Memory 48) : (s.setImem v).imem = v := rfl
@[simp] theorem State.setImem_extSched (v : Memory 48) : (s.setImem v).extSched = s.extSched := rfl
@[simp] theorem State.setImem_cycle (v : Memory 48) : (s.setImem v).cycle = s.cycle := rfl
@[simp] theorem State.setImem_trace (v : Memory 48) : (s.setImem v).trace = s.trace := rfl
@[simp] theorem State.setImem_diags (v : Memory 48) : (s.setImem v).diags = s.diags := rfl
@[simp] theorem State.setImem_reg (v : Memory 48) (r : RegNum) : (s.setImem v).reg r = s.reg r := rfl
@[simp] theorem State.setImem_ioAt (v : Memory 48) (r : IoReg) : (s.setImem v).ioAt r = s.ioAt r := rfl

/-! ### setExtSched -/

@[simp] theorem State.setExtSched_regs (v : List (Nat × Bool)) : (s.setExtSched v).regs = s.regs := rfl
@[simp] theorem State.setExtSched_pc (v : List (Nat × Bool)) : (s.setExtSched v).pc = s.pc := rfl
@[simp] theorem State.setExtSched_isr (v : List (Nat × Bool)) : (s.setExtSched v).isr = s.isr := rfl
@[simp] theorem State.setExtSched_halted (v : List (Nat × Bool)) : (s.setExtSched v).halted = s.halted := rfl
@[simp] theorem State.setExtSched_io (v : List (Nat × Bool)) : (s.setExtSched v).io = s.io := rfl
@[simp] theorem State.setExtSched_diskRemaining (v : List (Nat × Bool)) : (s.setExtSched v).diskRemaining = s.diskRemaining := rfl
@[simp] theorem State.setExtSched_dmem (v : List (Nat × Bool)) : (s.setExtSched v).dmem = s.dmem := rfl
@[simp] theorem State.setExtSched_disk (v : List (Nat × Bool)) : (s.setExtSched v).disk = s.disk := rfl
@[simp] theorem State.setExtSched_mon (v : List (Nat × Bool)) : (s.setExtSched v).mon = s.mon := rfl
@[simp] theorem State.setExtSched_imem (v : List (Nat × Bool)) : (s.setExtSched v).imem = s.imem := rfl
@[simp] theorem State.setExtSched_extSched (v : List (Nat × Bool)) : (s.setExtSched v).extSched = v := rfl
@[simp] theorem State.setExtSched_cycle (v : List (Nat × Bool)) : (s.setExtSched v).cycle = s.cycle := rfl
@[simp] theorem State.setExtSched_trace (v : List (Nat × Bool)) : (s.setExtSched v).trace = s.trace := rfl
@[simp] theorem State.setExtSched_diags (v : List (Nat × Bool)) : (s.setExtSched v).diags = s.diags := rfl
@[simp] theorem State.setExtSched_reg (v : List (Nat × Bool)) (r : RegNum) : (s.setExtSched v).reg r = s.reg r := rfl
@[simp] theorem State.setExtSched_ioAt (v : List (Nat × Bool)) (r : IoReg) : (s.setExtSched v).ioAt r = s.ioAt r := rfl

/-! ### setCycle -/

@[simp] theorem State.setCycle_regs (v : Nat) : (s.setCycle v).regs = s.regs := rfl
@[simp] theorem State.setCycle_pc (v : Nat) : (s.setCycle v).pc = s.pc := rfl
@[simp] theorem State.setCycle_isr (v : Nat) : (s.setCycle v).isr = s.isr := rfl
@[simp] theorem State.setCycle_halted (v : Nat) : (s.setCycle v).halted = s.halted := rfl
@[simp] theorem State.setCycle_io (v : Nat) : (s.setCycle v).io = s.io := rfl
@[simp] theorem State.setCycle_diskRemaining (v : Nat) : (s.setCycle v).diskRemaining = s.diskRemaining := rfl
@[simp] theorem State.setCycle_dmem (v : Nat) : (s.setCycle v).dmem = s.dmem := rfl
@[simp] theorem State.setCycle_disk (v : Nat) : (s.setCycle v).disk = s.disk := rfl
@[simp] theorem State.setCycle_mon (v : Nat) : (s.setCycle v).mon = s.mon := rfl
@[simp] theorem State.setCycle_imem (v : Nat) : (s.setCycle v).imem = s.imem := rfl
@[simp] theorem State.setCycle_extSched (v : Nat) : (s.setCycle v).extSched = s.extSched := rfl
@[simp] theorem State.setCycle_cycle (v : Nat) : (s.setCycle v).cycle = v := rfl
@[simp] theorem State.setCycle_trace (v : Nat) : (s.setCycle v).trace = s.trace := rfl
@[simp] theorem State.setCycle_diags (v : Nat) : (s.setCycle v).diags = s.diags := rfl
@[simp] theorem State.setCycle_reg (v : Nat) (r : RegNum) : (s.setCycle v).reg r = s.reg r := rfl
@[simp] theorem State.setCycle_ioAt (v : Nat) (r : IoReg) : (s.setCycle v).ioAt r = s.ioAt r := rfl

/-! ### report -/

@[simp] theorem State.report_regs (v : Diagnostic) : (s.report v).regs = s.regs := rfl
@[simp] theorem State.report_pc (v : Diagnostic) : (s.report v).pc = s.pc := rfl
@[simp] theorem State.report_isr (v : Diagnostic) : (s.report v).isr = s.isr := rfl
@[simp] theorem State.report_halted (v : Diagnostic) : (s.report v).halted = s.halted := rfl
@[simp] theorem State.report_io (v : Diagnostic) : (s.report v).io = s.io := rfl
@[simp] theorem State.report_diskRemaining (v : Diagnostic) : (s.report v).diskRemaining = s.diskRemaining := rfl
@[simp] theorem State.report_dmem (v : Diagnostic) : (s.report v).dmem = s.dmem := rfl
@[simp] theorem State.report_disk (v : Diagnostic) : (s.report v).disk = s.disk := rfl
@[simp] theorem State.report_mon (v : Diagnostic) : (s.report v).mon = s.mon := rfl
@[simp] theorem State.report_imem (v : Diagnostic) : (s.report v).imem = s.imem := rfl
@[simp] theorem State.report_extSched (v : Diagnostic) : (s.report v).extSched = s.extSched := rfl
@[simp] theorem State.report_cycle (v : Diagnostic) : (s.report v).cycle = s.cycle := rfl
@[simp] theorem State.report_trace (v : Diagnostic) : (s.report v).trace = s.trace := rfl
@[simp] theorem State.report_diags (v : Diagnostic) : (s.report v).diags = v :: s.diags := rfl
@[simp] theorem State.report_reg (v : Diagnostic) (r : RegNum) : (s.report v).reg r = s.reg r := rfl
@[simp] theorem State.report_ioAt (v : Diagnostic) (r : IoReg) : (s.report v).ioAt r = s.ioAt r := rfl

/-! ### emit -/

@[simp] theorem State.emit_regs (v : TraceRecord) : (s.emit v).regs = s.regs := rfl
@[simp] theorem State.emit_pc (v : TraceRecord) : (s.emit v).pc = s.pc := rfl
@[simp] theorem State.emit_isr (v : TraceRecord) : (s.emit v).isr = s.isr := rfl
@[simp] theorem State.emit_halted (v : TraceRecord) : (s.emit v).halted = s.halted := rfl
@[simp] theorem State.emit_io (v : TraceRecord) : (s.emit v).io = s.io := rfl
@[simp] theorem State.emit_diskRemaining (v : TraceRecord) : (s.emit v).diskRemaining = s.diskRemaining := rfl
@[simp] theorem State.emit_dmem (v : TraceRecord) : (s.emit v).dmem = s.dmem := rfl
@[simp] theorem State.emit_disk (v : TraceRecord) : (s.emit v).disk = s.disk := rfl
@[simp] theorem State.emit_mon (v : TraceRecord) : (s.emit v).mon = s.mon := rfl
@[simp] theorem State.emit_imem (v : TraceRecord) : (s.emit v).imem = s.imem := rfl
@[simp] theorem State.emit_extSched (v : TraceRecord) : (s.emit v).extSched = s.extSched := rfl
@[simp] theorem State.emit_cycle (v : TraceRecord) : (s.emit v).cycle = s.cycle := rfl
@[simp] theorem State.emit_trace (v : TraceRecord) : (s.emit v).trace = v :: s.trace := rfl
@[simp] theorem State.emit_diags (v : TraceRecord) : (s.emit v).diags = s.diags := rfl
@[simp] theorem State.emit_reg (v : TraceRecord) (r : RegNum) : (s.emit v).reg r = s.reg r := rfl
@[simp] theorem State.emit_ioAt (v : TraceRecord) (r : IoReg) : (s.emit v).ioAt r = s.ioAt r := rfl

end Sys2Proof.Machine
end

