-- ==== Sys2Proof/Laws/Ops.lean ====
section
/-! SUPPORT. What each shared operation of Machine/Ops.lean, Operands.lean and Flags.lean does: the fields it
leaves alone, one lemma each, and one lemma that says what it does to the field it changes. -/

namespace Sys2Proof.Machine

variable (s : State)

/-! ### The I/O table -/

theorem IoReg.index_injective {r q : IoReg} (h : r.index = q.index) : r = q := by
  cases r <;> cases q <;> first | rfl | (exact absurd h (by decide))

/-- The slot of an index is the one with that index. -/
theorem IoReg.ofIndex_index (r : IoReg) : IoReg.ofIndex r.index.val = some r := by cases r <;> rfl

/-- A bus index names the slot of that index or, from 23 on, none. -/
theorem IoReg.ofIndex_cases (n : Nat) :
    (∃ r : IoReg, r.index.val = n ∧ IoReg.ofIndex n = some r) ∨ (23 ≤ n ∧ IoReg.ofIndex n = none) := by
  by_cases h : 23 ≤ n
  · right
    refine ⟨h, ?_⟩
    unfold IoReg.ofIndex
    split <;> first | rfl | omega
  · left
    interval_cases n <;> exact ⟨_, rfl, rfl⟩

/-! ### Registers -/

@[simp] theorem State.reg_zero : s.reg 0 = 0 := rfl

/-- What `x[r] <- v` does to every register: R0, R1 and R2 keep their values. -/
theorem State.reg_writeReg (r : RegNum) (v : Word) (q : RegNum) :
    (s.writeReg r v).reg q = if q = r ∧ 3 ≤ r.val then v else s.reg q := by
  unfold State.writeReg writableReg State.reg State.setRegs
  by_cases hw : 3 ≤ r.val
  · by_cases hq : q = r
    · subst hq
      have : q ≠ 0 := by rintro rfl; exact absurd hw (by decide)
      simp [hw, this]
    · have hv : r.val ≠ q.val := fun h => hq (Fin.ext h.symm)
      simp [hw, hq, hv]
  · simp [hw]

/-- What the immediate load does to every register. -/
theorem State.reg_loadImmediates (f : Fields) (q : RegNum) :
    (s.loadImmediates f).reg q =
      if q = 1 then sext32 f.imm1 else if q = 2 then sext32 f.imm2 else s.reg q := by
  unfold State.loadImmediates State.reg State.setRegs
  by_cases h1 : q = 1
  · subst h1; simp
  · by_cases h2 : q = 2
    · subst h2; simp
    · have e1 : (1 : Nat) ≠ q.val := fun h => h1 (Fin.ext h.symm)
      have e2 : (2 : Nat) ≠ q.val := fun h => h2 (Fin.ext h.symm)
      simp [h1, h2, e1, e2]

/-- The snapshot shows every register as it reads. -/
theorem State.snapshot_get (q : RegNum) : s.snapshot[q.val] = s.reg q := by
  unfold State.snapshot State.reg
  by_cases h : q = 0
  · subst h; simp
  · have e : (0 : Nat) ≠ q.val := fun h' => h (Fin.ext h'.symm)
    simp [h, e]

/-! ### The I/O bank -/

/-- What a device write does to every slot. -/
@[simp] theorem State.ioAt_ioPut (r : IoReg) (v : Word) (q : IoReg) :
    (s.ioPut r v).ioAt q = if q = r then v else s.ioAt q := by
  unfold State.ioPut State.ioAt State.setIo
  by_cases h : q = r
  · subst h; simp
  · have e : r.index.val ≠ q.index.val := fun h' => h (IoReg.index_injective (Fin.ext h'.symm))
    simp [h, e]

/-- `IoRead` of a slot's index: its stored value, nothing changed. -/
theorem State.ioRead_slot {i : Word} {r : IoReg} (h : i.toNat = r.index.val) : s.ioRead i = (s.ioAt r, s) := by
  unfold State.ioRead
  rw [h, IoReg.ofIndex_index]

/-- `IoRead` outside the bank: zero and a report. -/
theorem State.ioRead_invalid {i : Word} (h : 23 ≤ i.toNat) : s.ioRead i = (0, s.report (.ioIndex i)) := by
  unfold State.ioRead
  rcases IoReg.ofIndex_cases i.toNat with ⟨r, hr, _⟩ | ⟨_, hn⟩
  · have := r.index.isLt
    omega
  · rw [hn]

/-- `IoWrite` to a slot's index: masked, or nothing for a slot of width 0. -/
theorem State.ioWrite_slot {i : Word} {r : IoReg} (h : i.toNat = r.index.val) (v : Word) :
    s.ioWrite i v = if r.width = 0 then s else s.ioPut r (v &&& maskOf r.width) := by
  unfold State.ioWrite
  rw [h, IoReg.ofIndex_index]

/-- `IoWrite` outside the bank: a report only. -/
theorem State.ioWrite_invalid {i : Word} (h : 23 ≤ i.toNat) (v : Word) : s.ioWrite i v = s.report (.ioIndex i) := by
  unfold State.ioWrite
  rcases IoReg.ofIndex_cases i.toNat with ⟨r, hr, _⟩ | ⟨_, hn⟩
  · have := r.index.isLt
    omega
  · rw [hn]

/-- Masking keeps the low bits (R81). -/
theorem and_maskOf_toNat (v : Word) {w : Nat} (hw : w ≤ 32) : (v &&& maskOf w).toNat = v.toNat % 2 ^ w := by
  have h2 : 2 ^ w ≤ 2 ^ 32 := Nat.pow_le_pow_right (by decide) hw
  have h1 : 0 < 2 ^ w := Nat.two_pow_pos w
  rw [BitVec.toNat_and, maskOf, BitVec.toNat_ofNat, Nat.mod_eq_of_lt (by omega), Nat.and_two_pow_sub_one_eq_mod]

theorem IoReg.width_le (r : IoReg) : r.width ≤ 32 := by cases r <;> decide

/-! ### Data memory -/

theorem State.memRead_valid {a : Word} (h : a.toNat < config.dmemWords) : s.memRead a = (s.dmem.read a.toNat, s) := by
  simp [State.memRead, dmemValid, h, State.dmemAt]

theorem State.memRead_invalid {a : Word} (h : config.dmemWords ≤ a.toNat) :
    s.memRead a = (0, s.report (.memAddr a)) := by
  simp [State.memRead, dmemValid, Nat.not_lt.mpr h]

theorem State.memWrite_valid {a : Word} (h : a.toNat < config.dmemWords) (v : Word) :
    s.memWrite a v = s.setDmem (s.dmem.write a.toNat v) := by
  simp [State.memWrite, dmemValid, h]

theorem State.memWrite_invalid {a : Word} (h : config.dmemWords ≤ a.toNat) (v : Word) :
    s.memWrite a v = s.report (.memAddr a) := by
  simp [State.memWrite, dmemValid, Nat.not_lt.mpr h]

/-! ### Configuration values -/

theorem config_dmemWords : config.dmemWords = 4096 := rfl
theorem config_diskSectors : config.diskSectors = 128 := rfl
theorem config_sectorBytes : config.sectorBytes = 512 := rfl
theorem config_diskLatency : config.diskLatency = 1024 := rfl
theorem config_monWidth : config.monWidth = 256 := rfl
theorem config_monHeight : config.monHeight = 256 := rfl
theorem config_extCycleBase : config.extCycleBase = 0 := rfl

/-! ### Fields writeReg leaves alone -/

@[simp] theorem State.writeReg_pc (r : RegNum) (v : Word) : (s.writeReg r v).pc = s.pc := by unfold State.writeReg; (repeat' split) <;> rfl
@[simp] theorem State.writeReg_isr (r : RegNum) (v : Word) : (s.writeReg r v).isr = s.isr := by unfold State.writeReg; (repeat' split) <;> rfl
@[simp] theorem State.writeReg_halted (r : RegNum) (v : Word) : (s.writeReg r v).halted = s.halted := by unfold State.writeReg; (repeat' split) <;> rfl
@[simp] theorem State.writeReg_io (r : RegNum) (v : Word) : (s.writeReg r v).io = s.io := by unfold State.writeReg; (repeat' split) <;> rfl
@[simp] theorem State.writeReg_diskRemaining (r : RegNum) (v : Word) : (s.writeReg r v).diskRemaining = s.diskRemaining := by unfold State.writeReg; (repeat' split) <;> rfl
@[simp] theorem State.writeReg_dmem (r : RegNum) (v : Word) : (s.writeReg r v).dmem = s.dmem := by unfold State.writeReg; (repeat' split) <;> rfl
@[simp] theorem State.writeReg_disk (r : RegNum) (v : Word) : (s.writeReg r v).disk = s.disk := by unfold State.writeReg; (repeat' split) <;> rfl
@[simp] theorem State.writeReg_mon (r : RegNum) (v : Word) : (s.writeReg r v).mon = s.mon := by unfold State.writeReg; (repeat' split) <;> rfl
@[simp] theorem State.writeReg_imem (r : RegNum) (v : Word) : (s.writeReg r v).imem = s.imem := by unfold State.writeReg; (repeat' split) <;> rfl
@[simp] theorem State.writeReg_extSched (r : RegNum) (v : Word) : (s.writeReg r v).extSched = s.extSched := by unfold State.writeReg; (repeat' split) <;> rfl
@[simp] theorem State.writeReg_cycle (r : RegNum) (v : Word) : (s.writeReg r v).cycle = s.cycle := by unfold State.writeReg; (repeat' split) <;> rfl
@[simp] theorem State.writeReg_trace (r : RegNum) (v : Word) : (s.writeReg r v).trace = s.trace := by unfold State.writeReg; (repeat' split) <;> rfl
@[simp] theorem State.writeReg_diags (r : RegNum) (v : Word) : (s.writeReg r v).diags = s.diags := by unfold State.writeReg; (repeat' split) <;> rfl
@[simp] theorem State.writeReg_ioAt (r : RegNum) (v : Word) (q : IoReg) : (s.writeReg r v).ioAt q = s.ioAt q := by unfold State.writeReg; (repeat' split) <;> rfl

/-! ### Fields loadImmediates leaves alone -/

@[simp] theorem State.loadImmediates_pc (f : Fields) : (s.loadImmediates f).pc = s.pc := rfl
@[simp] theorem State.loadImmediates_isr (f : Fields) : (s.loadImmediates f).isr = s.isr := rfl
@[simp] theorem State.loadImmediates_halted (f : Fields) : (s.loadImmediates f).halted = s.halted := rfl
@[simp] theorem State.loadImmediates_io (f : Fields) : (s.loadImmediates f).io = s.io := rfl
@[simp] theorem State.loadImmediates_diskRemaining (f : Fields) : (s.loadImmediates f).diskRemaining = s.diskRemaining := rfl
@[simp] theorem State.loadImmediates_dmem (f : Fields) : (s.loadImmediates f).dmem = s.dmem := rfl
@[simp] theorem State.loadImmediates_disk (f : Fields) : (s.loadImmediates f).disk = s.disk := rfl
@[simp] theorem State.loadImmediates_mon (f : Fields) : (s.loadImmediates f).mon = s.mon := rfl
@[simp] theorem State.loadImmediates_imem (f : Fields) : (s.loadImmediates f).imem = s.imem := rfl
@[simp] theorem State.loadImmediates_extSched (f : Fields) : (s.loadImmediates f).extSched = s.extSched := rfl
@[simp] theorem State.loadImmediates_cycle (f : Fields) : (s.loadImmediates f).cycle = s.cycle := rfl
@[simp] theorem State.loadImmediates_trace (f : Fields) : (s.loadImmediates f).trace = s.trace := rfl
@[simp] theorem State.loadImmediates_diags (f : Fields) : (s.loadImmediates f).diags = s.diags := rfl
@[simp] theorem State.loadImmediates_ioAt (f : Fields) (q : IoReg) : (s.loadImmediates f).ioAt q = s.ioAt q := rfl

/-! ### Fields advance leaves alone -/

@[simp] theorem State.advance_regs : (s.advance).regs = s.regs := rfl
@[simp] theorem State.advance_isr : (s.advance).isr = s.isr := rfl
@[simp] theorem State.advance_halted : (s.advance).halted = s.halted := rfl
@[simp] theorem State.advance_io : (s.advance).io = s.io := rfl
@[simp] theorem State.advance_diskRemaining : (s.advance).diskRemaining = s.diskRemaining := rfl
@[simp] theorem State.advance_dmem : (s.advance).dmem = s.dmem := rfl
@[simp] theorem State.advance_disk : (s.advance).disk = s.disk := rfl
@[simp] theorem State.advance_mon : (s.advance).mon = s.mon := rfl
@[simp] theorem State.advance_imem : (s.advance).imem = s.imem := rfl
@[simp] theorem State.advance_extSched : (s.advance).extSched = s.extSched := rfl
@[simp] theorem State.advance_cycle : (s.advance).cycle = s.cycle := rfl
@[simp] theorem State.advance_trace : (s.advance).trace = s.trace := rfl
@[simp] theorem State.advance_diags : (s.advance).diags = s.diags := rfl
@[simp] theorem State.advance_reg (q : RegNum) : (s.advance).reg q = s.reg q := rfl
@[simp] theorem State.advance_ioAt (q : IoReg) : (s.advance).ioAt q = s.ioAt q := rfl

/-! ### Fields ioPut leaves alone -/

@[simp] theorem State.ioPut_regs (r : IoReg) (v : Word) : (s.ioPut r v).regs = s.regs := rfl
@[simp] theorem State.ioPut_pc (r : IoReg) (v : Word) : (s.ioPut r v).pc = s.pc := rfl
@[simp] theorem State.ioPut_isr (r : IoReg) (v : Word) : (s.ioPut r v).isr = s.isr := rfl
@[simp] theorem State.ioPut_halted (r : IoReg) (v : Word) : (s.ioPut r v).halted = s.halted := rfl
@[simp] theorem State.ioPut_diskRemaining (r : IoReg) (v : Word) : (s.ioPut r v).diskRemaining = s.diskRemaining := rfl
@[simp] theorem State.ioPut_dmem (r : IoReg) (v : Word) : (s.ioPut r v).dmem = s.dmem := rfl
@[simp] theorem State.ioPut_disk (r : IoReg) (v : Word) : (s.ioPut r v).disk = s.disk := rfl
@[simp] theorem State.ioPut_mon (r : IoReg) (v : Word) : (s.ioPut r v).mon = s.mon := rfl
@[simp] theorem State.ioPut_imem (r : IoReg) (v : Word) : (s.ioPut r v).imem = s.imem := rfl
@[simp] theorem State.ioPut_extSched (r : IoReg) (v : Word) : (s.ioPut r v).extSched = s.extSched := rfl
@[simp] theorem State.ioPut_cycle (r : IoReg) (v : Word) : (s.ioPut r v).cycle = s.cycle := rfl
@[simp] theorem State.ioPut_trace (r : IoReg) (v : Word) : (s.ioPut r v).trace = s.trace := rfl
@[simp] theorem State.ioPut_diags (r : IoReg) (v : Word) : (s.ioPut r v).diags = s.diags := rfl
@[simp] theorem State.ioPut_reg (r : IoReg) (v : Word) (q : RegNum) : (s.ioPut r v).reg q = s.reg q := rfl

/-! ### Fields ioWrite leaves alone -/

@[simp] theorem State.ioWrite_regs (i v : Word) : (s.ioWrite i v).regs = s.regs := by unfold State.ioWrite; (repeat' split) <;> rfl
@[simp] theorem State.ioWrite_pc (i v : Word) : (s.ioWrite i v).pc = s.pc := by unfold State.ioWrite; (repeat' split) <;> rfl
@[simp] theorem State.ioWrite_isr (i v : Word) : (s.ioWrite i v).isr = s.isr := by unfold State.ioWrite; (repeat' split) <;> rfl
@[simp] theorem State.ioWrite_halted (i v : Word) : (s.ioWrite i v).halted = s.halted := by unfold State.ioWrite; (repeat' split) <;> rfl
@[simp] theorem State.ioWrite_diskRemaining (i v : Word) : (s.ioWrite i v).diskRemaining = s.diskRemaining := by unfold State.ioWrite; (repeat' split) <;> rfl
@[simp] theorem State.ioWrite_dmem (i v : Word) : (s.ioWrite i v).dmem = s.dmem := by unfold State.ioWrite; (repeat' split) <;> rfl
@[simp] theorem State.ioWrite_disk (i v : Word) : (s.ioWrite i v).disk = s.disk := by unfold State.ioWrite; (repeat' split) <;> rfl
@[simp] theorem State.ioWrite_mon (i v : Word) : (s.ioWrite i v).mon = s.mon := by unfold State.ioWrite; (repeat' split) <;> rfl
@[simp] theorem State.ioWrite_imem (i v : Word) : (s.ioWrite i v).imem = s.imem := by unfold State.ioWrite; (repeat' split) <;> rfl
@[simp] theorem State.ioWrite_extSched (i v : Word) : (s.ioWrite i v).extSched = s.extSched := by unfold State.ioWrite; (repeat' split) <;> rfl
@[simp] theorem State.ioWrite_cycle (i v : Word) : (s.ioWrite i v).cycle = s.cycle := by unfold State.ioWrite; (repeat' split) <;> rfl
@[simp] theorem State.ioWrite_trace (i v : Word) : (s.ioWrite i v).trace = s.trace := by unfold State.ioWrite; (repeat' split) <;> rfl
@[simp] theorem State.ioWrite_reg (i v : Word) (q : RegNum) : (s.ioWrite i v).reg q = s.reg q := by unfold State.ioWrite; (repeat' split) <;> rfl

/-! ### Fields ioRead leaves alone -/

@[simp] theorem State.ioRead_regs (i : Word) : ((s.ioRead i).2).regs = s.regs := by unfold State.ioRead; (repeat' split) <;> rfl
@[simp] theorem State.ioRead_pc (i : Word) : ((s.ioRead i).2).pc = s.pc := by unfold State.ioRead; (repeat' split) <;> rfl
@[simp] theorem State.ioRead_isr (i : Word) : ((s.ioRead i).2).isr = s.isr := by unfold State.ioRead; (repeat' split) <;> rfl
@[simp] theorem State.ioRead_halted (i : Word) : ((s.ioRead i).2).halted = s.halted := by unfold State.ioRead; (repeat' split) <;> rfl
@[simp] theorem State.ioRead_io (i : Word) : ((s.ioRead i).2).io = s.io := by unfold State.ioRead; (repeat' split) <;> rfl
@[simp] theorem State.ioRead_diskRemaining (i : Word) : ((s.ioRead i).2).diskRemaining = s.diskRemaining := by unfold State.ioRead; (repeat' split) <;> rfl
@[simp] theorem State.ioRead_dmem (i : Word) : ((s.ioRead i).2).dmem = s.dmem := by unfold State.ioRead; (repeat' split) <;> rfl
@[simp] theorem State.ioRead_disk (i : Word) : ((s.ioRead i).2).disk = s.disk := by unfold State.ioRead; (repeat' split) <;> rfl
@[simp] theorem State.ioRead_mon (i : Word) : ((s.ioRead i).2).mon = s.mon := by unfold State.ioRead; (repeat' split) <;> rfl
@[simp] theorem State.ioRead_imem (i : Word) : ((s.ioRead i).2).imem = s.imem := by unfold State.ioRead; (repeat' split) <;> rfl
@[simp] theorem State.ioRead_extSched (i : Word) : ((s.ioRead i).2).extSched = s.extSched := by unfold State.ioRead; (repeat' split) <;> rfl
@[simp] theorem State.ioRead_cycle (i : Word) : ((s.ioRead i).2).cycle = s.cycle := by unfold State.ioRead; (repeat' split) <;> rfl
@[simp] theorem State.ioRead_trace (i : Word) : ((s.ioRead i).2).trace = s.trace := by unfold State.ioRead; (repeat' split) <;> rfl
@[simp] theorem State.ioRead_reg (i : Word) (q : RegNum) : ((s.ioRead i).2).reg q = s.reg q := by unfold State.ioRead; (repeat' split) <;> rfl
@[simp] theorem State.ioRead_ioAt (i : Word) (q : IoReg) : ((s.ioRead i).2).ioAt q = s.ioAt q := by unfold State.ioRead; (repeat' split) <;> rfl

/-! ### Fields memRead leaves alone -/

@[simp] theorem State.memRead_regs (a : Word) : ((s.memRead a).2).regs = s.regs := by unfold State.memRead; (repeat' split) <;> rfl
@[simp] theorem State.memRead_pc (a : Word) : ((s.memRead a).2).pc = s.pc := by unfold State.memRead; (repeat' split) <;> rfl
@[simp] theorem State.memRead_isr (a : Word) : ((s.memRead a).2).isr = s.isr := by unfold State.memRead; (repeat' split) <;> rfl
@[simp] theorem State.memRead_halted (a : Word) : ((s.memRead a).2).halted = s.halted := by unfold State.memRead; (repeat' split) <;> rfl
@[simp] theorem State.memRead_io (a : Word) : ((s.memRead a).2).io = s.io := by unfold State.memRead; (repeat' split) <;> rfl
@[simp] theorem State.memRead_diskRemaining (a : Word) : ((s.memRead a).2).diskRemaining = s.diskRemaining := by unfold State.memRead; (repeat' split) <;> rfl
@[simp] theorem State.memRead_dmem (a : Word) : ((s.memRead a).2).dmem = s.dmem := by unfold State.memRead; (repeat' split) <;> rfl
@[simp] theorem State.memRead_disk (a : Word) : ((s.memRead a).2).disk = s.disk := by unfold State.memRead; (repeat' split) <;> rfl
@[simp] theorem State.memRead_mon (a : Word) : ((s.memRead a).2).mon = s.mon := by unfold State.memRead; (repeat' split) <;> rfl
@[simp] theorem State.memRead_imem (a : Word) : ((s.memRead a).2).imem = s.imem := by unfold State.memRead; (repeat' split) <;> rfl
@[simp] theorem State.memRead_extSched (a : Word) : ((s.memRead a).2).extSched = s.extSched := by unfold State.memRead; (repeat' split) <;> rfl
@[simp] theorem State.memRead_cycle (a : Word) : ((s.memRead a).2).cycle = s.cycle := by unfold State.memRead; (repeat' split) <;> rfl
@[simp] theorem State.memRead_trace (a : Word) : ((s.memRead a).2).trace = s.trace := by unfold State.memRead; (repeat' split) <;> rfl
@[simp] theorem State.memRead_reg (a : Word) (q : RegNum) : ((s.memRead a).2).reg q = s.reg q := by unfold State.memRead; (repeat' split) <;> rfl
@[simp] theorem State.memRead_ioAt (a : Word) (q : IoReg) : ((s.memRead a).2).ioAt q = s.ioAt q := by unfold State.memRead; (repeat' split) <;> rfl

/-! ### Fields memWrite leaves alone -/

@[simp] theorem State.memWrite_regs (a v : Word) : (s.memWrite a v).regs = s.regs := by unfold State.memWrite; (repeat' split) <;> rfl
@[simp] theorem State.memWrite_pc (a v : Word) : (s.memWrite a v).pc = s.pc := by unfold State.memWrite; (repeat' split) <;> rfl
@[simp] theorem State.memWrite_isr (a v : Word) : (s.memWrite a v).isr = s.isr := by unfold State.memWrite; (repeat' split) <;> rfl
@[simp] theorem State.memWrite_halted (a v : Word) : (s.memWrite a v).halted = s.halted := by unfold State.memWrite; (repeat' split) <;> rfl
@[simp] theorem State.memWrite_io (a v : Word) : (s.memWrite a v).io = s.io := by unfold State.memWrite; (repeat' split) <;> rfl
@[simp] theorem State.memWrite_diskRemaining (a v : Word) : (s.memWrite a v).diskRemaining = s.diskRemaining := by unfold State.memWrite; (repeat' split) <;> rfl
@[simp] theorem State.memWrite_disk (a v : Word) : (s.memWrite a v).disk = s.disk := by unfold State.memWrite; (repeat' split) <;> rfl
@[simp] theorem State.memWrite_mon (a v : Word) : (s.memWrite a v).mon = s.mon := by unfold State.memWrite; (repeat' split) <;> rfl
@[simp] theorem State.memWrite_imem (a v : Word) : (s.memWrite a v).imem = s.imem := by unfold State.memWrite; (repeat' split) <;> rfl
@[simp] theorem State.memWrite_extSched (a v : Word) : (s.memWrite a v).extSched = s.extSched := by unfold State.memWrite; (repeat' split) <;> rfl
@[simp] theorem State.memWrite_cycle (a v : Word) : (s.memWrite a v).cycle = s.cycle := by unfold State.memWrite; (repeat' split) <;> rfl
@[simp] theorem State.memWrite_trace (a v : Word) : (s.memWrite a v).trace = s.trace := by unfold State.memWrite; (repeat' split) <;> rfl
@[simp] theorem State.memWrite_reg (a v : Word) (q : RegNum) : (s.memWrite a v).reg q = s.reg q := by unfold State.memWrite; (repeat' split) <;> rfl
@[simp] theorem State.memWrite_ioAt (a v : Word) (q : IoReg) : (s.memWrite a v).ioAt q = s.ioAt q := by unfold State.memWrite; (repeat' split) <;> rfl

/-! ### Fields putDiskByte leaves alone -/

@[simp] theorem State.putDiskByte_regs (sec b : Nat) (v : Byte) : (s.putDiskByte sec b v).regs = s.regs := rfl
@[simp] theorem State.putDiskByte_pc (sec b : Nat) (v : Byte) : (s.putDiskByte sec b v).pc = s.pc := rfl
@[simp] theorem State.putDiskByte_isr (sec b : Nat) (v : Byte) : (s.putDiskByte sec b v).isr = s.isr := rfl
@[simp] theorem State.putDiskByte_halted (sec b : Nat) (v : Byte) : (s.putDiskByte sec b v).halted = s.halted := rfl
@[simp] theorem State.putDiskByte_io (sec b : Nat) (v : Byte) : (s.putDiskByte sec b v).io = s.io := rfl
@[simp] theorem State.putDiskByte_diskRemaining (sec b : Nat) (v : Byte) : (s.putDiskByte sec b v).diskRemaining = s.diskRemaining := rfl
@[simp] theorem State.putDiskByte_dmem (sec b : Nat) (v : Byte) : (s.putDiskByte sec b v).dmem = s.dmem := rfl
@[simp] theorem State.putDiskByte_mon (sec b : Nat) (v : Byte) : (s.putDiskByte sec b v).mon = s.mon := rfl
@[simp] theorem State.putDiskByte_imem (sec b : Nat) (v : Byte) : (s.putDiskByte sec b v).imem = s.imem := rfl
@[simp] theorem State.putDiskByte_extSched (sec b : Nat) (v : Byte) : (s.putDiskByte sec b v).extSched = s.extSched := rfl
@[simp] theorem State.putDiskByte_cycle (sec b : Nat) (v : Byte) : (s.putDiskByte sec b v).cycle = s.cycle := rfl
@[simp] theorem State.putDiskByte_trace (sec b : Nat) (v : Byte) : (s.putDiskByte sec b v).trace = s.trace := rfl
@[simp] theorem State.putDiskByte_diags (sec b : Nat) (v : Byte) : (s.putDiskByte sec b v).diags = s.diags := rfl
@[simp] theorem State.putDiskByte_reg (sec b : Nat) (v : Byte) (q : RegNum) : (s.putDiskByte sec b v).reg q = s.reg q := rfl
@[simp] theorem State.putDiskByte_ioAt (sec b : Nat) (v : Byte) (q : IoReg) : (s.putDiskByte sec b v).ioAt q = s.ioAt q := rfl

/-! ### Fields putPixel leaves alone -/

@[simp] theorem State.putPixel_regs (r c : Nat) (v : Byte) : (s.putPixel r c v).regs = s.regs := rfl
@[simp] theorem State.putPixel_pc (r c : Nat) (v : Byte) : (s.putPixel r c v).pc = s.pc := rfl
@[simp] theorem State.putPixel_isr (r c : Nat) (v : Byte) : (s.putPixel r c v).isr = s.isr := rfl
@[simp] theorem State.putPixel_halted (r c : Nat) (v : Byte) : (s.putPixel r c v).halted = s.halted := rfl
@[simp] theorem State.putPixel_io (r c : Nat) (v : Byte) : (s.putPixel r c v).io = s.io := rfl
@[simp] theorem State.putPixel_diskRemaining (r c : Nat) (v : Byte) : (s.putPixel r c v).diskRemaining = s.diskRemaining := rfl
@[simp] theorem State.putPixel_dmem (r c : Nat) (v : Byte) : (s.putPixel r c v).dmem = s.dmem := rfl
@[simp] theorem State.putPixel_disk (r c : Nat) (v : Byte) : (s.putPixel r c v).disk = s.disk := rfl
@[simp] theorem State.putPixel_imem (r c : Nat) (v : Byte) : (s.putPixel r c v).imem = s.imem := rfl
@[simp] theorem State.putPixel_extSched (r c : Nat) (v : Byte) : (s.putPixel r c v).extSched = s.extSched := rfl
@[simp] theorem State.putPixel_cycle (r c : Nat) (v : Byte) : (s.putPixel r c v).cycle = s.cycle := rfl
@[simp] theorem State.putPixel_trace (r c : Nat) (v : Byte) : (s.putPixel r c v).trace = s.trace := rfl
@[simp] theorem State.putPixel_diags (r c : Nat) (v : Byte) : (s.putPixel r c v).diags = s.diags := rfl
@[simp] theorem State.putPixel_reg (r c : Nat) (v : Byte) (q : RegNum) : (s.putPixel r c v).reg q = s.reg q := rfl
@[simp] theorem State.putPixel_ioAt (r c : Nat) (v : Byte) (q : IoReg) : (s.putPixel r c v).ioAt q = s.ioAt q := rfl

/-! ### Fields takeInterrupt leaves alone -/

@[simp] theorem State.takeInterrupt_regs : (s.takeInterrupt).regs = s.regs := rfl
@[simp] theorem State.takeInterrupt_halted : (s.takeInterrupt).halted = s.halted := rfl
@[simp] theorem State.takeInterrupt_diskRemaining : (s.takeInterrupt).diskRemaining = s.diskRemaining := rfl
@[simp] theorem State.takeInterrupt_dmem : (s.takeInterrupt).dmem = s.dmem := rfl
@[simp] theorem State.takeInterrupt_disk : (s.takeInterrupt).disk = s.disk := rfl
@[simp] theorem State.takeInterrupt_mon : (s.takeInterrupt).mon = s.mon := rfl
@[simp] theorem State.takeInterrupt_imem : (s.takeInterrupt).imem = s.imem := rfl
@[simp] theorem State.takeInterrupt_extSched : (s.takeInterrupt).extSched = s.extSched := rfl
@[simp] theorem State.takeInterrupt_cycle : (s.takeInterrupt).cycle = s.cycle := rfl
@[simp] theorem State.takeInterrupt_trace : (s.takeInterrupt).trace = s.trace := rfl
@[simp] theorem State.takeInterrupt_diags : (s.takeInterrupt).diags = s.diags := rfl
@[simp] theorem State.takeInterrupt_reg (q : RegNum) : (s.takeInterrupt).reg q = s.reg q := rfl

/-! ### Fields returnFromInterrupt leaves alone -/

@[simp] theorem State.returnFromInterrupt_regs : (s.returnFromInterrupt).regs = s.regs := rfl
@[simp] theorem State.returnFromInterrupt_halted : (s.returnFromInterrupt).halted = s.halted := rfl
@[simp] theorem State.returnFromInterrupt_io : (s.returnFromInterrupt).io = s.io := rfl
@[simp] theorem State.returnFromInterrupt_diskRemaining : (s.returnFromInterrupt).diskRemaining = s.diskRemaining := rfl
@[simp] theorem State.returnFromInterrupt_dmem : (s.returnFromInterrupt).dmem = s.dmem := rfl
@[simp] theorem State.returnFromInterrupt_disk : (s.returnFromInterrupt).disk = s.disk := rfl
@[simp] theorem State.returnFromInterrupt_mon : (s.returnFromInterrupt).mon = s.mon := rfl
@[simp] theorem State.returnFromInterrupt_imem : (s.returnFromInterrupt).imem = s.imem := rfl
@[simp] theorem State.returnFromInterrupt_extSched : (s.returnFromInterrupt).extSched = s.extSched := rfl
@[simp] theorem State.returnFromInterrupt_cycle : (s.returnFromInterrupt).cycle = s.cycle := rfl
@[simp] theorem State.returnFromInterrupt_trace : (s.returnFromInterrupt).trace = s.trace := rfl
@[simp] theorem State.returnFromInterrupt_diags : (s.returnFromInterrupt).diags = s.diags := rfl
@[simp] theorem State.returnFromInterrupt_reg (q : RegNum) : (s.returnFromInterrupt).reg q = s.reg q := rfl
@[simp] theorem State.returnFromInterrupt_ioAt (q : IoReg) : (s.returnFromInterrupt).ioAt q = s.ioAt q := rfl

/-! ### Fields writeAndAdvance leaves alone -/

@[simp] theorem State.writeAndAdvance_isr (rd : RegNum) (v : Word) : (s.writeAndAdvance rd v).isr = s.isr := by unfold State.writeAndAdvance; simp
@[simp] theorem State.writeAndAdvance_halted (rd : RegNum) (v : Word) : (s.writeAndAdvance rd v).halted = s.halted := by unfold State.writeAndAdvance; simp
@[simp] theorem State.writeAndAdvance_io (rd : RegNum) (v : Word) : (s.writeAndAdvance rd v).io = s.io := by unfold State.writeAndAdvance; simp
@[simp] theorem State.writeAndAdvance_diskRemaining (rd : RegNum) (v : Word) : (s.writeAndAdvance rd v).diskRemaining = s.diskRemaining := by unfold State.writeAndAdvance; simp
@[simp] theorem State.writeAndAdvance_dmem (rd : RegNum) (v : Word) : (s.writeAndAdvance rd v).dmem = s.dmem := by unfold State.writeAndAdvance; simp
@[simp] theorem State.writeAndAdvance_disk (rd : RegNum) (v : Word) : (s.writeAndAdvance rd v).disk = s.disk := by unfold State.writeAndAdvance; simp
@[simp] theorem State.writeAndAdvance_mon (rd : RegNum) (v : Word) : (s.writeAndAdvance rd v).mon = s.mon := by unfold State.writeAndAdvance; simp
@[simp] theorem State.writeAndAdvance_imem (rd : RegNum) (v : Word) : (s.writeAndAdvance rd v).imem = s.imem := by unfold State.writeAndAdvance; simp
@[simp] theorem State.writeAndAdvance_extSched (rd : RegNum) (v : Word) : (s.writeAndAdvance rd v).extSched = s.extSched := by unfold State.writeAndAdvance; simp
@[simp] theorem State.writeAndAdvance_cycle (rd : RegNum) (v : Word) : (s.writeAndAdvance rd v).cycle = s.cycle := by unfold State.writeAndAdvance; simp
@[simp] theorem State.writeAndAdvance_trace (rd : RegNum) (v : Word) : (s.writeAndAdvance rd v).trace = s.trace := by unfold State.writeAndAdvance; simp
@[simp] theorem State.writeAndAdvance_diags (rd : RegNum) (v : Word) : (s.writeAndAdvance rd v).diags = s.diags := by unfold State.writeAndAdvance; simp
@[simp] theorem State.writeAndAdvance_ioAt (rd : RegNum) (v : Word) (q : IoReg) : (s.writeAndAdvance rd v).ioAt q = s.ioAt q := by unfold State.writeAndAdvance; simp

/-! ### Fields branch leaves alone -/

@[simp] theorem State.branch_regs (o : Operands) (c : Bool) : (s.branch o c).regs = s.regs := by unfold State.branch; (repeat' split) <;> rfl
@[simp] theorem State.branch_isr (o : Operands) (c : Bool) : (s.branch o c).isr = s.isr := by unfold State.branch; (repeat' split) <;> rfl
@[simp] theorem State.branch_halted (o : Operands) (c : Bool) : (s.branch o c).halted = s.halted := by unfold State.branch; (repeat' split) <;> rfl
@[simp] theorem State.branch_io (o : Operands) (c : Bool) : (s.branch o c).io = s.io := by unfold State.branch; (repeat' split) <;> rfl
@[simp] theorem State.branch_diskRemaining (o : Operands) (c : Bool) : (s.branch o c).diskRemaining = s.diskRemaining := by unfold State.branch; (repeat' split) <;> rfl
@[simp] theorem State.branch_dmem (o : Operands) (c : Bool) : (s.branch o c).dmem = s.dmem := by unfold State.branch; (repeat' split) <;> rfl
@[simp] theorem State.branch_disk (o : Operands) (c : Bool) : (s.branch o c).disk = s.disk := by unfold State.branch; (repeat' split) <;> rfl
@[simp] theorem State.branch_mon (o : Operands) (c : Bool) : (s.branch o c).mon = s.mon := by unfold State.branch; (repeat' split) <;> rfl
@[simp] theorem State.branch_imem (o : Operands) (c : Bool) : (s.branch o c).imem = s.imem := by unfold State.branch; (repeat' split) <;> rfl
@[simp] theorem State.branch_extSched (o : Operands) (c : Bool) : (s.branch o c).extSched = s.extSched := by unfold State.branch; (repeat' split) <;> rfl
@[simp] theorem State.branch_cycle (o : Operands) (c : Bool) : (s.branch o c).cycle = s.cycle := by unfold State.branch; (repeat' split) <;> rfl
@[simp] theorem State.branch_trace (o : Operands) (c : Bool) : (s.branch o c).trace = s.trace := by unfold State.branch; (repeat' split) <;> rfl
@[simp] theorem State.branch_diags (o : Operands) (c : Bool) : (s.branch o c).diags = s.diags := by unfold State.branch; (repeat' split) <;> rfl
@[simp] theorem State.branch_reg (o : Operands) (c : Bool) (q : RegNum) : (s.branch o c).reg q = s.reg q := by unfold State.branch; (repeat' split) <;> rfl
@[simp] theorem State.branch_ioAt (o : Operands) (c : Bool) (q : IoReg) : (s.branch o c).ioAt q = s.ioAt q := by unfold State.branch; (repeat' split) <;> rfl

/-! ### What they do to pc -/

@[simp] theorem State.advance_pc : s.advance.pc = s.pc + 1 := rfl
@[simp] theorem State.writeAndAdvance_pc (rd : RegNum) (v : Word) : (s.writeAndAdvance rd v).pc = s.pc + 1 := by
  simp [State.writeAndAdvance]
@[simp] theorem State.writeAndAdvance_reg (rd : RegNum) (v : Word) (q : RegNum) :
    (s.writeAndAdvance rd v).reg q = if q = rd ∧ 3 ≤ rd.val then v else s.reg q := by
  rw [State.writeAndAdvance, State.advance_reg, State.reg_writeReg]

/-- `(P + 1) mod 4096` on numbers. -/
theorem pc_succ_toNat (p : Pc) : (p + 1).toNat = (p.toNat + 1) % 4096 := by simp [BitVec.toNat_add]

/-- `v[11:0]` on numbers. -/
theorem low12_toNat (v : Word) : (low12 v).toNat = v.toNat % 4096 := by simp [low12]

/-! ### Shifts, conditions, branches and the link value -/

/-- Every shift is by the low five bits of the amount. -/
theorem shiftResult_eq (op : ShiftOp) (o : Operands) : shiftResult op o = shiftValue op o.a (o.b.toNat % 32) := by
  unfold shiftResult
  split
  · rw [Nat.mod_eq_of_lt ‹_›]
  · simp [config, lowFive, BitVec.extractLsb'_toNat]

theorem condEq_iff (o : Operands) : condEq o = true ↔ o.a = o.b := by simp [condEq]
theorem condNe_iff (o : Operands) : condNe o = true ↔ o.a ≠ o.b := by simp [condNe]
theorem condLt_iff (o : Operands) : condLt o = true ↔ o.a.toInt < o.b.toInt := by simp [condLt]
theorem condGt_iff (o : Operands) : condGt o = true ↔ o.b.toInt < o.a.toInt := by simp [condGt]
theorem condLe_iff (o : Operands) : condLe o = true ↔ o.a.toInt ≤ o.b.toInt := by simp [condLe]
theorem condGe_iff (o : Operands) : condGe o = true ↔ o.b.toInt ≤ o.a.toInt := by simp [condGe]

/-- Where a branch goes. -/
theorem branch_pc (o : Operands) (c : Bool) :
    (s.branch o c).pc.toNat = if c = true then o.c.toNat % 4096 else (s.pc.toNat + 1) % 4096 := by
  unfold State.branch
  split <;> simp [target, low12]

/-! ### The memories stay canonical and inside their spaces -/

theorem reset_memories_wf : State.reset.dmem.wf config.dmemWords = true ∧
    State.reset.disk.wf (config.diskSectors * config.sectorBytes) = true ∧
    State.reset.mon.wf (config.monHeight * config.monWidth) = true ∧ State.reset.imem.wf 4096 = true :=
  ⟨rfl, rfl, rfl, rfl⟩

theorem State.memWrite_wf (h : s.dmem.wf config.dmemWords = true) (a v : Word) :
    (s.memWrite a v).dmem.wf config.dmemWords = true := by
  by_cases ha : a.toNat < config.dmemWords
  · rw [State.memWrite_valid s ha]
    exact Memory.wf_write h ha v
  · rw [State.memWrite_invalid s (Nat.not_lt.mp ha)]
    exact h

theorem State.putDiskByte_wf (h : s.disk.wf (config.diskSectors * config.sectorBytes) = true) {sec b : Nat}
    (hs : sec < 128) (hb : b < 512) (v : Byte) :
    (s.putDiskByte sec b v).disk.wf (config.diskSectors * config.sectorBytes) = true :=
  Memory.wf_write h (by simp only [diskIndex, config]; omega) v

theorem State.putPixel_wf (h : s.mon.wf (config.monHeight * config.monWidth) = true) {r c : Nat}
    (hr : r < 256) (hc : c < 256) (v : Byte) :
    (s.putPixel r c v).mon.wf (config.monHeight * config.monWidth) = true :=
  Memory.wf_write h (by simp only [pixelIndex, config]; omega) v

end Sys2Proof.Machine
end

