-- ==== Sys2Proof/Laws/Devices.lean ====
section
/-! SUPPORT. What each device step of Machine/Devices.lean and each step of Machine/Cycle.lean leaves alone, one lemma a
field, and what it does to the I/O bank. -/

namespace Sys2Proof.Machine

variable (s : State)

/-- A field that every byte of a transfer leaves alone is left alone by the whole transfer. -/
theorem foldl_keeps {α β : Type} (g : State → α) (f : State → β → State) (h : ∀ s b, g (f s b) = g s) (l : List β) :
    ∀ s, g (l.foldl f s) = g s := by
  induction l with
  | nil => intro s; rfl
  | cons b rest ih => intro s; rw [List.foldl_cons, ih, h]

/-! ### Fields tickClock leaves alone -/

@[simp] theorem tickClock_regs : (tickClock s).regs = s.regs := by simp [tickClock]
@[simp] theorem tickClock_pc : (tickClock s).pc = s.pc := by simp [tickClock]
@[simp] theorem tickClock_isr : (tickClock s).isr = s.isr := by simp [tickClock]
@[simp] theorem tickClock_halted : (tickClock s).halted = s.halted := by simp [tickClock]
@[simp] theorem tickClock_diskRemaining : (tickClock s).diskRemaining = s.diskRemaining := by simp [tickClock]
@[simp] theorem tickClock_dmem : (tickClock s).dmem = s.dmem := by simp [tickClock]
@[simp] theorem tickClock_disk : (tickClock s).disk = s.disk := by simp [tickClock]
@[simp] theorem tickClock_mon : (tickClock s).mon = s.mon := by simp [tickClock]
@[simp] theorem tickClock_imem : (tickClock s).imem = s.imem := by simp [tickClock]
@[simp] theorem tickClock_extSched : (tickClock s).extSched = s.extSched := by simp [tickClock]
@[simp] theorem tickClock_cycle : (tickClock s).cycle = s.cycle := by simp [tickClock]
@[simp] theorem tickClock_trace : (tickClock s).trace = s.trace := by simp [tickClock]
@[simp] theorem tickClock_diags : (tickClock s).diags = s.diags := by simp [tickClock]
@[simp] theorem tickClock_reg (q : RegNum) : (tickClock s).reg q = s.reg q := by simp [tickClock]

/-! ### Fields tickTimer leaves alone -/

@[simp] theorem tickTimer_regs : (tickTimer s).regs = s.regs := by unfold tickTimer; (repeat' split) <;> simp
@[simp] theorem tickTimer_pc : (tickTimer s).pc = s.pc := by unfold tickTimer; (repeat' split) <;> simp
@[simp] theorem tickTimer_isr : (tickTimer s).isr = s.isr := by unfold tickTimer; (repeat' split) <;> simp
@[simp] theorem tickTimer_halted : (tickTimer s).halted = s.halted := by unfold tickTimer; (repeat' split) <;> simp
@[simp] theorem tickTimer_diskRemaining : (tickTimer s).diskRemaining = s.diskRemaining := by unfold tickTimer; (repeat' split) <;> simp
@[simp] theorem tickTimer_dmem : (tickTimer s).dmem = s.dmem := by unfold tickTimer; (repeat' split) <;> simp
@[simp] theorem tickTimer_disk : (tickTimer s).disk = s.disk := by unfold tickTimer; (repeat' split) <;> simp
@[simp] theorem tickTimer_mon : (tickTimer s).mon = s.mon := by unfold tickTimer; (repeat' split) <;> simp
@[simp] theorem tickTimer_imem : (tickTimer s).imem = s.imem := by unfold tickTimer; (repeat' split) <;> simp
@[simp] theorem tickTimer_extSched : (tickTimer s).extSched = s.extSched := by unfold tickTimer; (repeat' split) <;> simp
@[simp] theorem tickTimer_cycle : (tickTimer s).cycle = s.cycle := by unfold tickTimer; (repeat' split) <;> simp
@[simp] theorem tickTimer_trace : (tickTimer s).trace = s.trace := by unfold tickTimer; (repeat' split) <;> simp
@[simp] theorem tickTimer_diags : (tickTimer s).diags = s.diags := by unfold tickTimer; (repeat' split) <;> simp
@[simp] theorem tickTimer_reg (q : RegNum) : (tickTimer s).reg q = s.reg q := by unfold tickTimer; (repeat' split) <;> simp

/-! ### Fields sampleExternal leaves alone -/

@[simp] theorem sampleExternal_regs : (sampleExternal s).regs = s.regs := by unfold sampleExternal; (repeat' split) <;> simp
@[simp] theorem sampleExternal_pc : (sampleExternal s).pc = s.pc := by unfold sampleExternal; (repeat' split) <;> simp
@[simp] theorem sampleExternal_isr : (sampleExternal s).isr = s.isr := by unfold sampleExternal; (repeat' split) <;> simp
@[simp] theorem sampleExternal_halted : (sampleExternal s).halted = s.halted := by unfold sampleExternal; (repeat' split) <;> simp
@[simp] theorem sampleExternal_diskRemaining : (sampleExternal s).diskRemaining = s.diskRemaining := by unfold sampleExternal; (repeat' split) <;> simp
@[simp] theorem sampleExternal_dmem : (sampleExternal s).dmem = s.dmem := by unfold sampleExternal; (repeat' split) <;> simp
@[simp] theorem sampleExternal_disk : (sampleExternal s).disk = s.disk := by unfold sampleExternal; (repeat' split) <;> simp
@[simp] theorem sampleExternal_mon : (sampleExternal s).mon = s.mon := by unfold sampleExternal; (repeat' split) <;> simp
@[simp] theorem sampleExternal_imem : (sampleExternal s).imem = s.imem := by unfold sampleExternal; (repeat' split) <;> simp
@[simp] theorem sampleExternal_extSched : (sampleExternal s).extSched = s.extSched := by unfold sampleExternal; (repeat' split) <;> simp
@[simp] theorem sampleExternal_cycle : (sampleExternal s).cycle = s.cycle := by unfold sampleExternal; (repeat' split) <;> simp
@[simp] theorem sampleExternal_trace : (sampleExternal s).trace = s.trace := by unfold sampleExternal; (repeat' split) <;> simp
@[simp] theorem sampleExternal_diags : (sampleExternal s).diags = s.diags := by unfold sampleExternal; (repeat' split) <;> simp
@[simp] theorem sampleExternal_reg (q : RegNum) : (sampleExternal s).reg q = s.reg q := by unfold sampleExternal; (repeat' split) <;> simp

/-! ### Fields readSectorByte leaves alone -/

@[simp] theorem readSectorByte_regs (sec : Nat) (buf : Word) (b : Nat) : (readSectorByte sec buf s b).regs = s.regs := by simp [readSectorByte]
@[simp] theorem readSectorByte_pc (sec : Nat) (buf : Word) (b : Nat) : (readSectorByte sec buf s b).pc = s.pc := by simp [readSectorByte]
@[simp] theorem readSectorByte_isr (sec : Nat) (buf : Word) (b : Nat) : (readSectorByte sec buf s b).isr = s.isr := by simp [readSectorByte]
@[simp] theorem readSectorByte_halted (sec : Nat) (buf : Word) (b : Nat) : (readSectorByte sec buf s b).halted = s.halted := by simp [readSectorByte]
@[simp] theorem readSectorByte_io (sec : Nat) (buf : Word) (b : Nat) : (readSectorByte sec buf s b).io = s.io := by simp [readSectorByte]
@[simp] theorem readSectorByte_diskRemaining (sec : Nat) (buf : Word) (b : Nat) : (readSectorByte sec buf s b).diskRemaining = s.diskRemaining := by simp [readSectorByte]
@[simp] theorem readSectorByte_disk (sec : Nat) (buf : Word) (b : Nat) : (readSectorByte sec buf s b).disk = s.disk := by simp [readSectorByte]
@[simp] theorem readSectorByte_mon (sec : Nat) (buf : Word) (b : Nat) : (readSectorByte sec buf s b).mon = s.mon := by simp [readSectorByte]
@[simp] theorem readSectorByte_imem (sec : Nat) (buf : Word) (b : Nat) : (readSectorByte sec buf s b).imem = s.imem := by simp [readSectorByte]
@[simp] theorem readSectorByte_extSched (sec : Nat) (buf : Word) (b : Nat) : (readSectorByte sec buf s b).extSched = s.extSched := by simp [readSectorByte]
@[simp] theorem readSectorByte_cycle (sec : Nat) (buf : Word) (b : Nat) : (readSectorByte sec buf s b).cycle = s.cycle := by simp [readSectorByte]
@[simp] theorem readSectorByte_trace (sec : Nat) (buf : Word) (b : Nat) : (readSectorByte sec buf s b).trace = s.trace := by simp [readSectorByte]
@[simp] theorem readSectorByte_reg (sec : Nat) (buf : Word) (b : Nat) (q : RegNum) : (readSectorByte sec buf s b).reg q = s.reg q := by simp [readSectorByte]
@[simp] theorem readSectorByte_ioAt (sec : Nat) (buf : Word) (b : Nat) (q : IoReg) : (readSectorByte sec buf s b).ioAt q = s.ioAt q := by simp [readSectorByte]

/-! ### Fields writeSectorByte leaves alone -/

@[simp] theorem writeSectorByte_regs (sec : Nat) (buf : Word) (b : Nat) : (writeSectorByte sec buf s b).regs = s.regs := by simp [writeSectorByte]
@[simp] theorem writeSectorByte_pc (sec : Nat) (buf : Word) (b : Nat) : (writeSectorByte sec buf s b).pc = s.pc := by simp [writeSectorByte]
@[simp] theorem writeSectorByte_isr (sec : Nat) (buf : Word) (b : Nat) : (writeSectorByte sec buf s b).isr = s.isr := by simp [writeSectorByte]
@[simp] theorem writeSectorByte_halted (sec : Nat) (buf : Word) (b : Nat) : (writeSectorByte sec buf s b).halted = s.halted := by simp [writeSectorByte]
@[simp] theorem writeSectorByte_io (sec : Nat) (buf : Word) (b : Nat) : (writeSectorByte sec buf s b).io = s.io := by simp [writeSectorByte]
@[simp] theorem writeSectorByte_diskRemaining (sec : Nat) (buf : Word) (b : Nat) : (writeSectorByte sec buf s b).diskRemaining = s.diskRemaining := by simp [writeSectorByte]
@[simp] theorem writeSectorByte_dmem (sec : Nat) (buf : Word) (b : Nat) : (writeSectorByte sec buf s b).dmem = s.dmem := by simp [writeSectorByte]
@[simp] theorem writeSectorByte_mon (sec : Nat) (buf : Word) (b : Nat) : (writeSectorByte sec buf s b).mon = s.mon := by simp [writeSectorByte]
@[simp] theorem writeSectorByte_imem (sec : Nat) (buf : Word) (b : Nat) : (writeSectorByte sec buf s b).imem = s.imem := by simp [writeSectorByte]
@[simp] theorem writeSectorByte_extSched (sec : Nat) (buf : Word) (b : Nat) : (writeSectorByte sec buf s b).extSched = s.extSched := by simp [writeSectorByte]
@[simp] theorem writeSectorByte_cycle (sec : Nat) (buf : Word) (b : Nat) : (writeSectorByte sec buf s b).cycle = s.cycle := by simp [writeSectorByte]
@[simp] theorem writeSectorByte_trace (sec : Nat) (buf : Word) (b : Nat) : (writeSectorByte sec buf s b).trace = s.trace := by simp [writeSectorByte]
@[simp] theorem writeSectorByte_reg (sec : Nat) (buf : Word) (b : Nat) (q : RegNum) : (writeSectorByte sec buf s b).reg q = s.reg q := by simp [writeSectorByte]
@[simp] theorem writeSectorByte_ioAt (sec : Nat) (buf : Word) (b : Nat) (q : IoReg) : (writeSectorByte sec buf s b).ioAt q = s.ioAt q := by simp [writeSectorByte]

/-! ### Fields readSector leaves alone -/

@[simp] theorem readSector_regs (sec : Nat) (buf : Word) : (readSector sec buf s).regs = s.regs := foldl_keeps State.regs _ (fun s b => readSectorByte_regs s sec buf b) _ s
@[simp] theorem readSector_pc (sec : Nat) (buf : Word) : (readSector sec buf s).pc = s.pc := foldl_keeps State.pc _ (fun s b => readSectorByte_pc s sec buf b) _ s
@[simp] theorem readSector_isr (sec : Nat) (buf : Word) : (readSector sec buf s).isr = s.isr := foldl_keeps State.isr _ (fun s b => readSectorByte_isr s sec buf b) _ s
@[simp] theorem readSector_halted (sec : Nat) (buf : Word) : (readSector sec buf s).halted = s.halted := foldl_keeps State.halted _ (fun s b => readSectorByte_halted s sec buf b) _ s
@[simp] theorem readSector_io (sec : Nat) (buf : Word) : (readSector sec buf s).io = s.io := foldl_keeps State.io _ (fun s b => readSectorByte_io s sec buf b) _ s
@[simp] theorem readSector_diskRemaining (sec : Nat) (buf : Word) : (readSector sec buf s).diskRemaining = s.diskRemaining := foldl_keeps State.diskRemaining _ (fun s b => readSectorByte_diskRemaining s sec buf b) _ s
@[simp] theorem readSector_disk (sec : Nat) (buf : Word) : (readSector sec buf s).disk = s.disk := foldl_keeps State.disk _ (fun s b => readSectorByte_disk s sec buf b) _ s
@[simp] theorem readSector_mon (sec : Nat) (buf : Word) : (readSector sec buf s).mon = s.mon := foldl_keeps State.mon _ (fun s b => readSectorByte_mon s sec buf b) _ s
@[simp] theorem readSector_imem (sec : Nat) (buf : Word) : (readSector sec buf s).imem = s.imem := foldl_keeps State.imem _ (fun s b => readSectorByte_imem s sec buf b) _ s
@[simp] theorem readSector_extSched (sec : Nat) (buf : Word) : (readSector sec buf s).extSched = s.extSched := foldl_keeps State.extSched _ (fun s b => readSectorByte_extSched s sec buf b) _ s
@[simp] theorem readSector_cycle (sec : Nat) (buf : Word) : (readSector sec buf s).cycle = s.cycle := foldl_keeps State.cycle _ (fun s b => readSectorByte_cycle s sec buf b) _ s
@[simp] theorem readSector_trace (sec : Nat) (buf : Word) : (readSector sec buf s).trace = s.trace := foldl_keeps State.trace _ (fun s b => readSectorByte_trace s sec buf b) _ s
@[simp] theorem readSector_reg (sec : Nat) (buf : Word) (q : RegNum) : (readSector sec buf s).reg q = s.reg q := foldl_keeps (fun s => s.reg q) _ (fun s b => readSectorByte_reg s sec buf b q) _ s
@[simp] theorem readSector_ioAt (sec : Nat) (buf : Word) (q : IoReg) : (readSector sec buf s).ioAt q = s.ioAt q := foldl_keeps (fun s => s.ioAt q) _ (fun s b => readSectorByte_ioAt s sec buf b q) _ s

/-! ### Fields writeSector leaves alone -/

@[simp] theorem writeSector_regs (sec : Nat) (buf : Word) : (writeSector sec buf s).regs = s.regs := foldl_keeps State.regs _ (fun s b => writeSectorByte_regs s sec buf b) _ s
@[simp] theorem writeSector_pc (sec : Nat) (buf : Word) : (writeSector sec buf s).pc = s.pc := foldl_keeps State.pc _ (fun s b => writeSectorByte_pc s sec buf b) _ s
@[simp] theorem writeSector_isr (sec : Nat) (buf : Word) : (writeSector sec buf s).isr = s.isr := foldl_keeps State.isr _ (fun s b => writeSectorByte_isr s sec buf b) _ s
@[simp] theorem writeSector_halted (sec : Nat) (buf : Word) : (writeSector sec buf s).halted = s.halted := foldl_keeps State.halted _ (fun s b => writeSectorByte_halted s sec buf b) _ s
@[simp] theorem writeSector_io (sec : Nat) (buf : Word) : (writeSector sec buf s).io = s.io := foldl_keeps State.io _ (fun s b => writeSectorByte_io s sec buf b) _ s
@[simp] theorem writeSector_diskRemaining (sec : Nat) (buf : Word) : (writeSector sec buf s).diskRemaining = s.diskRemaining := foldl_keeps State.diskRemaining _ (fun s b => writeSectorByte_diskRemaining s sec buf b) _ s
@[simp] theorem writeSector_dmem (sec : Nat) (buf : Word) : (writeSector sec buf s).dmem = s.dmem := foldl_keeps State.dmem _ (fun s b => writeSectorByte_dmem s sec buf b) _ s
@[simp] theorem writeSector_mon (sec : Nat) (buf : Word) : (writeSector sec buf s).mon = s.mon := foldl_keeps State.mon _ (fun s b => writeSectorByte_mon s sec buf b) _ s
@[simp] theorem writeSector_imem (sec : Nat) (buf : Word) : (writeSector sec buf s).imem = s.imem := foldl_keeps State.imem _ (fun s b => writeSectorByte_imem s sec buf b) _ s
@[simp] theorem writeSector_extSched (sec : Nat) (buf : Word) : (writeSector sec buf s).extSched = s.extSched := foldl_keeps State.extSched _ (fun s b => writeSectorByte_extSched s sec buf b) _ s
@[simp] theorem writeSector_cycle (sec : Nat) (buf : Word) : (writeSector sec buf s).cycle = s.cycle := foldl_keeps State.cycle _ (fun s b => writeSectorByte_cycle s sec buf b) _ s
@[simp] theorem writeSector_trace (sec : Nat) (buf : Word) : (writeSector sec buf s).trace = s.trace := foldl_keeps State.trace _ (fun s b => writeSectorByte_trace s sec buf b) _ s
@[simp] theorem writeSector_reg (sec : Nat) (buf : Word) (q : RegNum) : (writeSector sec buf s).reg q = s.reg q := foldl_keeps (fun s => s.reg q) _ (fun s b => writeSectorByte_reg s sec buf b q) _ s
@[simp] theorem writeSector_ioAt (sec : Nat) (buf : Word) (q : IoReg) : (writeSector sec buf s).ioAt q = s.ioAt q := foldl_keeps (fun s => s.ioAt q) _ (fun s b => writeSectorByte_ioAt s sec buf b q) _ s

/-! ### Fields tickDiskBusy leaves alone -/

@[simp] theorem tickDiskBusy_regs : (tickDiskBusy s).regs = s.regs := by unfold tickDiskBusy; dsimp only; split <;> simp
@[simp] theorem tickDiskBusy_pc : (tickDiskBusy s).pc = s.pc := by unfold tickDiskBusy; dsimp only; split <;> simp
@[simp] theorem tickDiskBusy_isr : (tickDiskBusy s).isr = s.isr := by unfold tickDiskBusy; dsimp only; split <;> simp
@[simp] theorem tickDiskBusy_halted : (tickDiskBusy s).halted = s.halted := by unfold tickDiskBusy; dsimp only; split <;> simp
@[simp] theorem tickDiskBusy_dmem : (tickDiskBusy s).dmem = s.dmem := by unfold tickDiskBusy; dsimp only; split <;> simp
@[simp] theorem tickDiskBusy_disk : (tickDiskBusy s).disk = s.disk := by unfold tickDiskBusy; dsimp only; split <;> simp
@[simp] theorem tickDiskBusy_mon : (tickDiskBusy s).mon = s.mon := by unfold tickDiskBusy; dsimp only; split <;> simp
@[simp] theorem tickDiskBusy_imem : (tickDiskBusy s).imem = s.imem := by unfold tickDiskBusy; dsimp only; split <;> simp
@[simp] theorem tickDiskBusy_extSched : (tickDiskBusy s).extSched = s.extSched := by unfold tickDiskBusy; dsimp only; split <;> simp
@[simp] theorem tickDiskBusy_cycle : (tickDiskBusy s).cycle = s.cycle := by unfold tickDiskBusy; dsimp only; split <;> simp
@[simp] theorem tickDiskBusy_trace : (tickDiskBusy s).trace = s.trace := by unfold tickDiskBusy; dsimp only; split <;> simp
@[simp] theorem tickDiskBusy_diags : (tickDiskBusy s).diags = s.diags := by unfold tickDiskBusy; dsimp only; split <;> simp
@[simp] theorem tickDiskBusy_reg (q : RegNum) : (tickDiskBusy s).reg q = s.reg q := by unfold tickDiskBusy; dsimp only; split <;> simp

/-! ### Fields tickDiskReady leaves alone -/

@[simp] theorem tickDiskReady_regs : (tickDiskReady s).regs = s.regs := by unfold tickDiskReady acceptDisk; (repeat' split) <;> simp
@[simp] theorem tickDiskReady_pc : (tickDiskReady s).pc = s.pc := by unfold tickDiskReady acceptDisk; (repeat' split) <;> simp
@[simp] theorem tickDiskReady_isr : (tickDiskReady s).isr = s.isr := by unfold tickDiskReady acceptDisk; (repeat' split) <;> simp
@[simp] theorem tickDiskReady_halted : (tickDiskReady s).halted = s.halted := by unfold tickDiskReady acceptDisk; (repeat' split) <;> simp
@[simp] theorem tickDiskReady_mon : (tickDiskReady s).mon = s.mon := by unfold tickDiskReady acceptDisk; (repeat' split) <;> simp
@[simp] theorem tickDiskReady_imem : (tickDiskReady s).imem = s.imem := by unfold tickDiskReady acceptDisk; (repeat' split) <;> simp
@[simp] theorem tickDiskReady_extSched : (tickDiskReady s).extSched = s.extSched := by unfold tickDiskReady acceptDisk; (repeat' split) <;> simp
@[simp] theorem tickDiskReady_cycle : (tickDiskReady s).cycle = s.cycle := by unfold tickDiskReady acceptDisk; (repeat' split) <;> simp
@[simp] theorem tickDiskReady_trace : (tickDiskReady s).trace = s.trace := by unfold tickDiskReady acceptDisk; (repeat' split) <;> simp
@[simp] theorem tickDiskReady_reg (q : RegNum) : (tickDiskReady s).reg q = s.reg q := by unfold tickDiskReady acceptDisk; (repeat' split) <;> simp

/-! ### Fields tickDisk leaves alone -/

@[simp] theorem tickDisk_regs : (tickDisk s).regs = s.regs := by unfold tickDisk; (repeat' split) <;> simp
@[simp] theorem tickDisk_pc : (tickDisk s).pc = s.pc := by unfold tickDisk; (repeat' split) <;> simp
@[simp] theorem tickDisk_isr : (tickDisk s).isr = s.isr := by unfold tickDisk; (repeat' split) <;> simp
@[simp] theorem tickDisk_halted : (tickDisk s).halted = s.halted := by unfold tickDisk; (repeat' split) <;> simp
@[simp] theorem tickDisk_mon : (tickDisk s).mon = s.mon := by unfold tickDisk; (repeat' split) <;> simp
@[simp] theorem tickDisk_imem : (tickDisk s).imem = s.imem := by unfold tickDisk; (repeat' split) <;> simp
@[simp] theorem tickDisk_extSched : (tickDisk s).extSched = s.extSched := by unfold tickDisk; (repeat' split) <;> simp
@[simp] theorem tickDisk_cycle : (tickDisk s).cycle = s.cycle := by unfold tickDisk; (repeat' split) <;> simp
@[simp] theorem tickDisk_trace : (tickDisk s).trace = s.trace := by unfold tickDisk; (repeat' split) <;> simp
@[simp] theorem tickDisk_reg (q : RegNum) : (tickDisk s).reg q = s.reg q := by unfold tickDisk; (repeat' split) <;> simp

/-! ### Fields dispatchInterrupt leaves alone -/

@[simp] theorem dispatchInterrupt_regs : (dispatchInterrupt s).regs = s.regs := by unfold dispatchInterrupt; (repeat' split) <;> simp
@[simp] theorem dispatchInterrupt_halted : (dispatchInterrupt s).halted = s.halted := by unfold dispatchInterrupt; (repeat' split) <;> simp
@[simp] theorem dispatchInterrupt_diskRemaining : (dispatchInterrupt s).diskRemaining = s.diskRemaining := by unfold dispatchInterrupt; (repeat' split) <;> simp
@[simp] theorem dispatchInterrupt_dmem : (dispatchInterrupt s).dmem = s.dmem := by unfold dispatchInterrupt; (repeat' split) <;> simp
@[simp] theorem dispatchInterrupt_disk : (dispatchInterrupt s).disk = s.disk := by unfold dispatchInterrupt; (repeat' split) <;> simp
@[simp] theorem dispatchInterrupt_mon : (dispatchInterrupt s).mon = s.mon := by unfold dispatchInterrupt; (repeat' split) <;> simp
@[simp] theorem dispatchInterrupt_imem : (dispatchInterrupt s).imem = s.imem := by unfold dispatchInterrupt; (repeat' split) <;> simp
@[simp] theorem dispatchInterrupt_extSched : (dispatchInterrupt s).extSched = s.extSched := by unfold dispatchInterrupt; (repeat' split) <;> simp
@[simp] theorem dispatchInterrupt_cycle : (dispatchInterrupt s).cycle = s.cycle := by unfold dispatchInterrupt; (repeat' split) <;> simp
@[simp] theorem dispatchInterrupt_trace : (dispatchInterrupt s).trace = s.trace := by unfold dispatchInterrupt; (repeat' split) <;> simp
@[simp] theorem dispatchInterrupt_diags : (dispatchInterrupt s).diags = s.diags := by unfold dispatchInterrupt; (repeat' split) <;> simp
@[simp] theorem dispatchInterrupt_reg (q : RegNum) : (dispatchInterrupt s).reg q = s.reg q := by unfold dispatchInterrupt; (repeat' split) <;> simp

/-! ### Fields writePixel leaves alone -/

@[simp] theorem writePixel_regs : (writePixel s).regs = s.regs := by unfold writePixel; dsimp only; split <;> simp
@[simp] theorem writePixel_pc : (writePixel s).pc = s.pc := by unfold writePixel; dsimp only; split <;> simp
@[simp] theorem writePixel_isr : (writePixel s).isr = s.isr := by unfold writePixel; dsimp only; split <;> simp
@[simp] theorem writePixel_halted : (writePixel s).halted = s.halted := by unfold writePixel; dsimp only; split <;> simp
@[simp] theorem writePixel_io : (writePixel s).io = s.io := by unfold writePixel; dsimp only; split <;> simp
@[simp] theorem writePixel_diskRemaining : (writePixel s).diskRemaining = s.diskRemaining := by unfold writePixel; dsimp only; split <;> simp
@[simp] theorem writePixel_dmem : (writePixel s).dmem = s.dmem := by unfold writePixel; dsimp only; split <;> simp
@[simp] theorem writePixel_disk : (writePixel s).disk = s.disk := by unfold writePixel; dsimp only; split <;> simp
@[simp] theorem writePixel_imem : (writePixel s).imem = s.imem := by unfold writePixel; dsimp only; split <;> simp
@[simp] theorem writePixel_extSched : (writePixel s).extSched = s.extSched := by unfold writePixel; dsimp only; split <;> simp
@[simp] theorem writePixel_cycle : (writePixel s).cycle = s.cycle := by unfold writePixel; dsimp only; split <;> simp
@[simp] theorem writePixel_trace : (writePixel s).trace = s.trace := by unfold writePixel; dsimp only; split <;> simp
@[simp] theorem writePixel_reg (q : RegNum) : (writePixel s).reg q = s.reg q := by unfold writePixel; dsimp only; split <;> simp
@[simp] theorem writePixel_ioAt (q : IoReg) : (writePixel s).ioAt q = s.ioAt q := by unfold writePixel; dsimp only; split <;> simp

/-! ### Fields serviceMonitor leaves alone -/

@[simp] theorem serviceMonitor_regs : (serviceMonitor s).regs = s.regs := by unfold serviceMonitor; (repeat' split) <;> simp
@[simp] theorem serviceMonitor_pc : (serviceMonitor s).pc = s.pc := by unfold serviceMonitor; (repeat' split) <;> simp
@[simp] theorem serviceMonitor_isr : (serviceMonitor s).isr = s.isr := by unfold serviceMonitor; (repeat' split) <;> simp
@[simp] theorem serviceMonitor_halted : (serviceMonitor s).halted = s.halted := by unfold serviceMonitor; (repeat' split) <;> simp
@[simp] theorem serviceMonitor_diskRemaining : (serviceMonitor s).diskRemaining = s.diskRemaining := by unfold serviceMonitor; (repeat' split) <;> simp
@[simp] theorem serviceMonitor_dmem : (serviceMonitor s).dmem = s.dmem := by unfold serviceMonitor; (repeat' split) <;> simp
@[simp] theorem serviceMonitor_disk : (serviceMonitor s).disk = s.disk := by unfold serviceMonitor; (repeat' split) <;> simp
@[simp] theorem serviceMonitor_imem : (serviceMonitor s).imem = s.imem := by unfold serviceMonitor; (repeat' split) <;> simp
@[simp] theorem serviceMonitor_extSched : (serviceMonitor s).extSched = s.extSched := by unfold serviceMonitor; (repeat' split) <;> simp
@[simp] theorem serviceMonitor_cycle : (serviceMonitor s).cycle = s.cycle := by unfold serviceMonitor; (repeat' split) <;> simp
@[simp] theorem serviceMonitor_trace : (serviceMonitor s).trace = s.trace := by unfold serviceMonitor; (repeat' split) <;> simp
@[simp] theorem serviceMonitor_reg (q : RegNum) : (serviceMonitor s).reg q = s.reg q := by unfold serviceMonitor; (repeat' split) <;> simp

/-! ### Fields devicePhase leaves alone -/

@[simp] theorem devicePhase_regs : (devicePhase s).regs = s.regs := by simp [devicePhase]
@[simp] theorem devicePhase_halted : (devicePhase s).halted = s.halted := by simp [devicePhase]
@[simp] theorem devicePhase_imem : (devicePhase s).imem = s.imem := by simp [devicePhase]
@[simp] theorem devicePhase_extSched : (devicePhase s).extSched = s.extSched := by simp [devicePhase]
@[simp] theorem devicePhase_cycle : (devicePhase s).cycle = s.cycle := by simp [devicePhase]
@[simp] theorem devicePhase_trace : (devicePhase s).trace = s.trace := by simp [devicePhase]
@[simp] theorem devicePhase_reg (q : RegNum) : (devicePhase s).reg q = s.reg q := by simp [devicePhase]

/-! ### Fields decodePhase leaves alone -/

@[simp] theorem decodePhase_pc (w : Slot) : (decodePhase w s).pc = s.pc := by simp [decodePhase]
@[simp] theorem decodePhase_isr (w : Slot) : (decodePhase w s).isr = s.isr := by simp [decodePhase]
@[simp] theorem decodePhase_halted (w : Slot) : (decodePhase w s).halted = s.halted := by simp [decodePhase]
@[simp] theorem decodePhase_io (w : Slot) : (decodePhase w s).io = s.io := by simp [decodePhase]
@[simp] theorem decodePhase_diskRemaining (w : Slot) : (decodePhase w s).diskRemaining = s.diskRemaining := by simp [decodePhase]
@[simp] theorem decodePhase_dmem (w : Slot) : (decodePhase w s).dmem = s.dmem := by simp [decodePhase]
@[simp] theorem decodePhase_disk (w : Slot) : (decodePhase w s).disk = s.disk := by simp [decodePhase]
@[simp] theorem decodePhase_mon (w : Slot) : (decodePhase w s).mon = s.mon := by simp [decodePhase]
@[simp] theorem decodePhase_imem (w : Slot) : (decodePhase w s).imem = s.imem := by simp [decodePhase]
@[simp] theorem decodePhase_extSched (w : Slot) : (decodePhase w s).extSched = s.extSched := by simp [decodePhase]
@[simp] theorem decodePhase_cycle (w : Slot) : (decodePhase w s).cycle = s.cycle := by simp [decodePhase]
@[simp] theorem decodePhase_diags (w : Slot) : (decodePhase w s).diags = s.diags := by simp [decodePhase]
@[simp] theorem decodePhase_ioAt (w : Slot) (q : IoReg) : (decodePhase w s).ioAt q = s.ioAt q := by simp [decodePhase]

/-! ### What they do to the I/O bank -/

theorem tickClock_ioAt (q : IoReg) :
    (tickClock s).ioAt q = if q = .clks then s.ioAt .clks + 1 else s.ioAt q := by
  simp [tickClock]

theorem tickTimer_ioAt (q : IoReg) :
    (tickTimer s).ioAt q =
      if s.ioAt .timerenable = 1 then
        if s.ioAt .timercurrent = s.ioAt .timermax then
          if q = .timercurrent then 0 else if q = .irq0status then 1 else s.ioAt q
        else if q = .timercurrent then s.ioAt .timercurrent + 1 else s.ioAt q
      else s.ioAt q := by
  unfold tickTimer
  split_ifs <;> simp_all

theorem sampleExternal_ioAt (q : IoReg) :
    (sampleExternal s).ioAt q =
      if extIrq s.extSched s.cycle = true ∧ q = .irq2status then 1 else s.ioAt q := by
  unfold sampleExternal
  split_ifs <;> simp_all

theorem tickDiskBusy_ioAt (q : IoReg) :
    (tickDiskBusy s).ioAt q =
      if s.diskRemaining - 1 = 0 then
        if q = .irq1status then 1 else if q = .diskstatus ∨ q = .diskcmd then 0 else s.ioAt q
      else s.ioAt q := by
  unfold tickDiskBusy
  dsimp only [State.setDiskRemaining_diskRemaining]
  split_ifs <;> simp_all
  split_ifs <;> simp_all

theorem tickDiskReady_ioAt (q : IoReg) :
    (tickDiskReady s).ioAt q =
      if (s.ioAt .diskcmd = 1 ∨ s.ioAt .diskcmd = 2) ∧ (s.ioAt .disksector).toNat < config.diskSectors ∧ q = .diskstatus
      then 1 else s.ioAt q := by
  unfold tickDiskReady acceptDisk
  split_ifs <;> simp_all

theorem dispatchInterrupt_ioAt (q : IoReg) :
    (dispatchInterrupt s).ioAt q =
      if (s.irqPending && !s.isr) = true ∧ q = .irqreturn then s.pc.setWidth 32 else s.ioAt q := by
  unfold dispatchInterrupt State.takeInterrupt
  split_ifs <;> simp_all

theorem serviceMonitor_ioAt (q : IoReg) :
    (serviceMonitor s).ioAt q = if s.ioAt .monitorcmd = 1 ∧ q = .monitorcmd then 0 else s.ioAt q := by
  unfold serviceMonitor
  split_ifs <;> simp_all

/-! ### What they do besides -/

/-- A BUSY tick counts down by one. -/
theorem tickDiskBusy_diskRemaining : (tickDiskBusy s).diskRemaining = s.diskRemaining - 1 := by
  unfold tickDiskBusy
  dsimp only
  split <;> simp

/-- Step 4 branches on the hidden counter alone (R240). -/
theorem tickDisk_eq : tickDisk s = if 0 < s.diskRemaining then tickDiskBusy s else tickDiskReady s := rfl

/-- The pixel write inside the buffer. -/
theorem writePixel_inside (h : (s.ioAt .monitoraddr).toNat / 256 < 256) :
    writePixel s = s.putPixel ((s.ioAt .monitoraddr).toNat / 256) ((s.ioAt .monitoraddr).toNat % 256)
      ((s.ioAt .monitordata).setWidth 8) :=
  if_pos (c := _ ∧ _) ⟨h, Nat.mod_lt _ (by decide)⟩

/-- The pixel write outside it. -/
theorem writePixel_outside (h : 256 ≤ (s.ioAt .monitoraddr).toNat / 256) :
    writePixel s = s.report (.monAddr (s.ioAt .monitoraddr)) :=
  if_neg (c := _ ∧ _) fun hc => absurd hc.1 (Nat.not_lt.mpr h)

/-- One byte of `ReadSector` whose word is in range. -/
theorem readSectorByte_valid {sec : Nat} {buf : Word} {b : Nat} (h : (transferIndex buf b).toNat < config.dmemWords) :
    readSectorByte sec buf s b = s.setDmem (s.dmem.write (transferIndex buf b).toNat
      ((s.dmem.read (transferIndex buf b).toNat &&& ~~~((0xFF : Word) <<< byteShift b)) |||
        ((s.diskByte sec b).setWidth 32 <<< byteShift b))) := by
  unfold readSectorByte
  rw [State.memRead_valid _ h]
  dsimp only
  rw [State.memWrite_valid _ h]

/-- One byte of `ReadSector` whose word is out of range: two reports. -/
theorem readSectorByte_invalid {sec : Nat} {buf : Word} {b : Nat} (h : config.dmemWords ≤ (transferIndex buf b).toNat) :
    readSectorByte sec buf s b =
      (s.report (.memAddr (transferIndex buf b))).report (.memAddr (transferIndex buf b)) := by
  unfold readSectorByte
  rw [State.memRead_invalid _ h]
  dsimp only
  rw [State.memWrite_invalid _ h]

/-! ### Fetch and decode -/

theorem beforeFetch_eq : beforeFetch s = (devicePhase s).setCycle (s.cycle + 1) := by
  simp [beforeFetch, countCycle]

/-- What the state of the execute stage holds in the registers. -/
theorem executeState_reg (q : RegNum) :
    (executeState s).reg q =
      if q = 1 then sext32 (fieldsOf (fetchedWord s)).imm1
      else if q = 2 then sext32 (fieldsOf (fetchedWord s)).imm2 else s.reg q := by
  simp [executeState, decodePhase, State.reg_loadImmediates, beforeFetch, countCycle]

theorem executeState_ioAt (q : IoReg) : (executeState s).ioAt q = (devicePhase s).ioAt q := by
  simp [executeState, beforeFetch, countCycle]

theorem executeState_pc : (executeState s).pc = (devicePhase s).pc := by
  simp [executeState, beforeFetch, countCycle]

/-! ### Placing a word from outside

The devices neither read nor write instruction memory and the halted flag, so the word placed is the one the next cycle
fetches. -/

/-- Replacing instruction memory and the halted flag commutes with a step that does not look at them. -/
def Commutes (m : Memory 48) (h : Bool) (f : State → State) : Prop :=
  ∀ s : State, f ((s.setImem m).setHalted h) = ((f s).setImem m).setHalted h

theorem Commutes.comp {m : Memory 48} {h : Bool} {f g : State → State} (hf : Commutes m h f) (hg : Commutes m h g) :
    Commutes m h (fun s => f (g s)) := by
  intro s
  change f (g _) = _
  rw [hg s, hf (g s)]

theorem Commutes.foldl {m : Memory 48} {h : Bool} {f : State → Nat → State} (hf : ∀ b, Commutes m h (fun s => f s b))
    (l : List Nat) : Commutes m h (fun s => l.foldl f s) := by
  induction l with
  | nil => intro s; rfl
  | cons b rest ih =>
    intro s
    have hb : f ((s.setImem m).setHalted h) b = ((f s b).setImem m).setHalted h := hf b s
    simp only [List.foldl_cons, hb]
    exact ih (f s b)

variable (m : Memory 48) (h : Bool)

theorem commutes_tickClock : Commutes m h tickClock := fun _ => rfl

theorem commutes_tickTimer : Commutes m h tickTimer := by
  intro s
  by_cases h1 : s.ioAt .timerenable = 1 <;> by_cases h2 : s.ioAt .timercurrent = s.ioAt .timermax <;>
    simp only [tickTimer, State.setHalted_ioAt, State.setImem_ioAt, h1, h2] <;> rfl

theorem commutes_sampleExternal : Commutes m h sampleExternal := by
  intro s
  by_cases h1 : extIrq s.extSched s.cycle = true <;> simp [sampleExternal, h1]
  rfl

theorem memRead_commutes (s : State) (a : Word) :
    ((s.setImem m).setHalted h).memRead a = ((s.memRead a).1, ((s.memRead a).2.setImem m).setHalted h) := by
  by_cases h1 : dmemValid a = true <;> simp [State.memRead, h1] <;> rfl

theorem memWrite_commutes (s : State) (a v : Word) :
    ((s.setImem m).setHalted h).memWrite a v = ((s.memWrite a v).setImem m).setHalted h := by
  by_cases h1 : dmemValid a = true <;> simp [State.memWrite, h1] <;> rfl

theorem commutes_readSectorByte (sec : Nat) (buf : Word) (b : Nat) :
    Commutes m h (fun s => readSectorByte sec buf s b) := by
  intro s
  simp only [readSectorByte, memRead_commutes, memWrite_commutes]
  rfl

theorem commutes_writeSectorByte (sec : Nat) (buf : Word) (b : Nat) :
    Commutes m h (fun s => writeSectorByte sec buf s b) := by
  intro s
  simp only [writeSectorByte, memRead_commutes]
  rfl

theorem acceptDisk_commutes {transfer : Nat → Word → State → State} (ht : ∀ sec buf, Commutes m h (transfer sec buf))
    (s : State) : acceptDisk ((s.setImem m).setHalted h) transfer = ((acceptDisk s transfer).setImem m).setHalted h := by
  have hs := ht (s.ioAt .disksector).toNat (s.ioAt .diskbuffer) s
  by_cases h1 : (s.ioAt .disksector).toNat < config.diskSectors <;> simp [acceptDisk, h1, hs] <;> rfl

theorem commutes_tickDiskBusy : Commutes m h tickDiskBusy := by
  intro s
  by_cases h1 : s.diskRemaining - 1 = 0 <;> simp [tickDiskBusy, h1] <;> rfl

theorem commutes_tickDiskReady : Commutes m h tickDiskReady := by
  intro s
  have hr := acceptDisk_commutes m h (transfer := readSector)
    (fun sec buf => Commutes.foldl (commutes_readSectorByte m h sec buf) _) s
  have hw := acceptDisk_commutes m h (transfer := writeSector)
    (fun sec buf => Commutes.foldl (commutes_writeSectorByte m h sec buf) _) s
  by_cases h0 : s.ioAt .diskcmd = 0
  · simp only [tickDiskReady, State.setHalted_ioAt, State.setImem_ioAt, h0]
    rfl
  · by_cases h1 : s.ioAt .diskcmd = 1
    · simp only [tickDiskReady, State.setHalted_ioAt, State.setImem_ioAt, h1]
      exact hr
    · by_cases h2 : s.ioAt .diskcmd = 2
      · simp only [tickDiskReady, State.setHalted_ioAt, State.setImem_ioAt, h2]
        exact hw
      · simp only [tickDiskReady, State.setHalted_ioAt, State.setImem_ioAt, h0, h1, h2]
        rfl

theorem commutes_tickDisk : Commutes m h tickDisk := by
  intro s
  by_cases h0 : 0 < s.diskRemaining
  · simpa [tickDisk, h0] using commutes_tickDiskBusy m h s
  · simpa [tickDisk, h0] using commutes_tickDiskReady m h s

theorem commutes_dispatchInterrupt : Commutes m h dispatchInterrupt := by
  intro s
  have hp : ((s.setImem m).setHalted h).irqPending = s.irqPending := rfl
  by_cases h1 : (s.irqPending && !s.isr) = true <;> simp only [dispatchInterrupt, hp, State.setHalted_isr,
    State.setImem_isr, h1] <;> rfl

theorem commutes_serviceMonitor : Commutes m h serviceMonitor := by
  intro s
  by_cases h1 : s.ioAt .monitorcmd = 1
  · by_cases h2 : (s.ioAt .monitoraddr).toNat / config.monWidth < config.monHeight ∧
        (s.ioAt .monitoraddr).toNat % config.monWidth < config.monWidth <;>
      simp only [serviceMonitor, writePixel, State.setHalted_ioAt, State.setImem_ioAt, h1, h2] <;> rfl
  · simp only [serviceMonitor, State.setHalted_ioAt, State.setImem_ioAt, h1]
    rfl

theorem commutes_devicePhase : Commutes m h devicePhase :=
  (commutes_serviceMonitor m h).comp <| (commutes_dispatchInterrupt m h).comp <| (commutes_tickDisk m h).comp <|
    (commutes_sampleExternal m h).comp <| (commutes_tickTimer m h).comp (commutes_tickClock m h)

/-- The word placed from outside is the one the next cycle fetches, and the machine is running. -/
theorem fetchedWord_placeWord (s : State) (w : Slot) :
    fetchedWord (placeWord s w) = w ∧ (placeWord s w).halted = false := by
  refine ⟨?_, rfl⟩
  unfold fetchedWord fetch placeWord
  rw [beforeFetch_eq, commutes_devicePhase]
  simp [beforeFetch_eq]

end Sys2Proof.Machine
end

