-- ==== Sys2Proof/Laws/Step.lean ====
section
/-! SUPPORT. What the execute stage, a step and a run can do: the fields no instruction touches, the two outcomes of a
running step, and runs one step at a time. -/

namespace Sys2Proof.Machine

/-- What no instruction of the execute stage touches. -/
theorem exec_untouched {i : Instr} {s t : State} (h : exec i s = .next t) :
    t.diskRemaining = s.diskRemaining ∧ t.disk = s.disk ∧ t.mon = s.mon ∧ t.imem = s.imem ∧
      t.extSched = s.extSched ∧ t.cycle = s.cycle ∧ t.trace = s.trace := by
  cases i <;> (injection h with h; subst h; refine ⟨?_, ?_, ?_, ?_, ?_, ?_, ?_⟩ <;> simp)

/-- A running step executes the fetched word on the state steps 1 to 9 left. -/
theorem step_running {s : State} (h : s.halted = false) : step s = executeWord (fetchedWord s) (executeState s) := by
  unfold step
  rw [h]
  rfl

theorem step_halted {s : State} (h : s.halted = true) : step s = .next s := by
  unfold step
  rw [h]
  rfl

/-- Everything a running step can be: an instruction of the table, or the report of an unsupported opcode. -/
theorem step_cases {s t : State} (hs : s.halted = false) (h : step s = .next t) :
    (∃ i, decode (fetchedWord s) = .instr i ∧ exec i (executeState s) = .next t) ∨
      (∃ op, decode (fetchedWord s) = .unsupported op ∧ t = ((executeState s).report (.opcode op)).advance) := by
  rw [step_running hs, executeWord] at h
  split at h
  · exact .inl ⟨_, ‹_›, h⟩
  · injection h with h
    exact .inr ⟨_, ‹_›, h.symm⟩

/-- A run whose first step answers a next state goes on from it. -/
theorem run_succ_of_next {n : Nat} {s u : State} (h : step s = .next u) :
    Sys2Proof.core.run (n + 1) s = Sys2Proof.core.run n u := by
  have h' : Sys2Proof.core.step s = .next u := h
  simp only [Host.Core.run, h']

theorem executeState_halted (s : State) : (executeState s).halted = s.halted := by
  simp [executeState, beforeFetch, countCycle]

theorem executeState_imem (s : State) : (executeState s).imem = s.imem := by
  simp [executeState, beforeFetch, countCycle]

theorem executeState_cycle (s : State) : (executeState s).cycle = s.cycle + 1 := by
  simp [executeState, beforeFetch, countCycle]

theorem executeState_trace (s : State) :
    (executeState s).trace = ⟨(beforeFetch s).pc, fetchedWord s,
      ((beforeFetch s).loadImmediates (fieldsOf (fetchedWord s))).snapshot⟩ :: s.trace := by
  simp [executeState, beforeFetch, countCycle, decodePhase]

end Sys2Proof.Machine
end

