-- ==== Sys2Proof/Tests/Slice0.lean ====
section
/-! SUPPORT. The model's own tests. Expected results are the spec's: the vectors of spec/95_test_vectors.md by their names
(A, S, B, M, Y, X, T, K, I, V), the quotations E of its part 1, and the encodings of spec/30_encoding.md. The witnesses at the end show that the
hypotheses of the statements can be met. -/

namespace Sys2Proof.Tests

open Sys2Proof.Machine

/-! ### Helpers -/

/-- Reset with some registers set. -/
def start (regs : List (RegNum × Word)) : State := regs.foldl (fun s p => s.writeReg p.1 p.2) State.reset

/-- Reset with some I/O slots set. -/
def slots (vals : List (IoReg × Word)) : State := vals.foldl (fun s p => s.ioPut p.1 p.2) State.reset

/-- One cycle with the word placed where it is fetched satisfies the test. -/
def after (s : State) (word : Nat) (p : State → Bool) : Bool :=
  match step (s.withFetchWord 48 word) with
  | .next t => p t
  | .fault _ => false
  | .refused _ => false

/-- One cycle of the state as it is satisfies the test. -/
def cycleOf (s : State) (p : State → Bool) : Bool :=
  match step s with
  | .next t => p t
  | .fault _ => false
  | .refused _ => false

/-! ### WellFormed refuses ill-formed terms (R102) -/

theorem test_wellFormed_refuses_imm1_2048 : (Instr.add ⟨3, 0, 1, 0, 2048, 0⟩).wellFormed = false := by decide
theorem test_wellFormed_refuses_imm1_below : (Instr.lw ⟨3, 0, 1, 0, -2049, 0⟩).wellFormed = false := by decide
theorem test_wellFormed_refuses_imm2_2048 : (Instr.halt ⟨0, 0, 0, 0, 0, 2048⟩).wellFormed = false := by decide
theorem test_wellFormed_refuses_imm2_below : (Instr.out ⟨0, 0, 1, 2, 9, -2049⟩).wellFormed = false := by decide
theorem test_wellFormed_accepts_bounds : (Instr.sub ⟨2, 3, 4, 5, 2047, -2048⟩).wellFormed = true := by decide

/-! ### Decoding, one word written out for every constructor -/

theorem test_decode_add_A1 : decode 0x003456000000 = .instr (.add ⟨3, 4, 5, 6, 0, 0⟩) := by decide
theorem test_decode_sub_A14 : decode 0x013412FFDFFC = .instr (.sub ⟨3, 4, 1, 2, -3, -4⟩) := by decide
theorem test_decode_mac_A17 : decode 0x023124FFE003 = .instr (.mac ⟨3, 1, 2, 4, -2, 3⟩) := by decide
theorem test_decode_and_A26 : decode 0x0334110FF000 = .instr (.and ⟨3, 4, 1, 1, 255, 0⟩) := by decide
theorem test_decode_or_A29 : decode 0x04345100F000 = .instr (.or ⟨3, 4, 5, 1, 15, 0⟩) := by decide
theorem test_decode_xor_A31 : decode 0x053451FFF000 = .instr (.xor ⟨3, 4, 5, 1, -1, 0⟩) := by decide
theorem test_decode_sll_S25 : decode 0x063456000000 = .instr (.sll ⟨3, 4, 5, 6, 0, 0⟩) := by decide
theorem test_decode_sra_S26 : decode 0x073330000000 = .instr (.sra ⟨3, 3, 3, 0, 0, 0⟩) := by decide
theorem test_decode_srl_S27 : decode 0x083120FF0008 = .instr (.srl ⟨3, 1, 2, 0, -16, 8⟩) := by decide
theorem test_decode_beq_B39 : decode 0x097446000000 = .instr (.beq ⟨7, 4, 4, 6, 0, 0⟩) := by decide
theorem test_decode_bne_B38 : decode 0x0A0002000005 = .instr (.bne ⟨0, 0, 0, 2, 0, 5⟩) := by decide
theorem test_decode_blt_X6 : decode 0x0B0312003004 = .instr (.blt ⟨0, 3, 1, 2, 3, 4⟩) := by decide
theorem test_decode_bgt_B19 : decode 0x0C0456000000 = .instr (.bgt ⟨0, 4, 5, 6, 0, 0⟩) := by decide
theorem test_decode_ble_B25 : decode 0x0D0456000000 = .instr (.ble ⟨0, 4, 5, 6, 0, 0⟩) := by decide
theorem test_decode_bge_B31 : decode 0x0E0456000000 = .instr (.bge ⟨0, 4, 5, 6, 0, 0⟩) := by decide
theorem test_decode_jal_B46 : decode 0x0F7564000000 = .instr (.jal ⟨7, 5, 6, 4, 0, 0⟩) := by decide
theorem test_decode_lw_M1 : decode 0x103412008005 = .instr (.lw ⟨3, 4, 1, 2, 8, 5⟩) := by decide
theorem test_decode_sw_M9 : decode 0x113412002064 = .instr (.sw ⟨3, 4, 1, 2, 2, 100⟩) := by decide
theorem test_decode_reti_Y3 : decode 0x12FEDC7FF800 = .instr (.reti ⟨15, 14, 13, 12, 2047, -2048⟩) := by decide
theorem test_decode_in_Y8 : decode 0x133450000000 = .instr (.in_ ⟨3, 4, 5, 0, 0, 0⟩) := by decide
theorem test_decode_out_Y32 : decode 0x149012009FFF = .instr (.out ⟨9, 0, 1, 2, 9, -1⟩) := by decide
theorem test_decode_halt_X3 : decode 0x15FEDCFFF001 = .instr (.halt ⟨15, 14, 13, 12, -1, 1⟩) := by decide
theorem test_decode_opcode22_Y35 : decode 0x163456123456 = .unsupported 22 := by decide
theorem test_decode_opcode255_X4 : decode 0xFFFFFFFFFFFF = .unsupported 255 := by decide
theorem test_encode_X2 : encode (.sub ⟨2, 3, 4, 5, 2047, -2048⟩) = 0x0123457FF800 := by decide
theorem test_decodeTableWord_short : decodeTableWord 8 0x15 = some (.add ⟨0, 0, 0, 0, 0, 21⟩) := by decide
theorem test_asm_R108 : (Instr.blt ⟨0, 3, 1, 2, 3, 4⟩).asm = "blt R0, R3, R1, R2, 3, 4" := by decide

/-! ### One cycle of each instruction -/

theorem test_add_A2 : after (start [(4, 0x7FFFFFFF)]) 0x003410001000 (fun t => t.reg 3 == 0x80000000 && t.pc == 1 && t.diags == []) = true := by decide
theorem test_add_A6 : after (start []) 0x001222007009 (fun t => t.reg 1 == 7 && t.reg 2 == 9) = true := by decide
theorem test_sub_A14 : after (start [(4, 5)]) 0x013412FFDFFC (fun t => t.reg 3 == 12) = true := by decide
theorem test_sub_A12 : after (start [(4, 0x80000000)]) 0x013410001000 (fun t => t.reg 3 == 0x7FFFFFFF) = true := by decide
theorem test_mac_A17 : after (start [(4, 1)]) 0x023124FFE003 (fun t => t.reg 3 == 0xFFFFFFFB) = true := by decide
theorem test_mac_A21 : after (start [(4, 0x12345678), (5, 0x9ABCDEF0), (6, 0x11111111)]) 0x023456000000 (fun t => t.reg 3 == 0x353E3191) = true := by decide
theorem test_and_A23 : after (start [(4, 0xF0F0F0F0), (5, 0xFF00FF00), (6, 0x0FFFFFFF)]) 0x033456000000 (fun t => t.reg 3 == 0xF000) = true := by decide
theorem test_and_A26 : after (start [(4, 0x12345678)]) 0x0334110FF000 (fun t => t.reg 3 == 0x78) = true := by decide
theorem test_or_A29 : after (start [(4, 0xF0), (5, 0xF00)]) 0x04345100F000 (fun t => t.reg 3 == 0xFFF) = true := by decide
theorem test_xor_A31 : after (start [(4, 0xAAAA5555), (5, 0xFFFF0000)]) 0x053451FFF000 (fun t => t.reg 3 == 0xAAAAAAAA) = true := by decide
theorem test_sll_S25 : after (start [(4, 3), (5, 0x104), (6, 0xFFFFFFFF)]) 0x063456000000 (fun t => t.reg 3 == 0x30) = true := by decide
theorem test_sll_S8 : after (start [(4, 0xFFFFFFFF)]) 0x063410FFF000 (fun t => t.reg 3 == 0x80000000) = true := by decide
theorem test_sra_S11 : after (start [(4, 0x80000000)]) 0x07341001F000 (fun t => t.reg 3 == 0xFFFFFFFF) = true := by decide
theorem test_sra_S15 : after (start [(4, 0x80000000)]) 0x073410021000 (fun t => t.reg 3 == 0xC0000000) = true := by decide
theorem test_srl_S19 : after (start [(4, 0x80000000)]) 0x08341001F000 (fun t => t.reg 3 == 1) = true := by decide
theorem test_srl_S27 : after (start []) 0x083120FF0008 (fun t => t.reg 3 == 0x00FFFFFF) = true := by decide
theorem test_beq_B1 : after ((start [(4, 5), (5, 5), (6, 0x12345)]).setPc 0x10) 0x090456000000 (fun t => t.pc == 0x345) = true := by decide
theorem test_beq_B4 : after ((start [(4, 0xFFFFFFFF), (5, 1), (6, 0x12345)]).setPc 0x10) 0x090456000000 (fun t => t.pc == 0x011) = true := by decide
theorem test_bne_B7 : after ((start [(4, 5), (5, 5), (6, 0x12345)]).setPc 0x10) 0x0A0456000000 (fun t => t.pc == 0x011) = true := by decide
theorem test_bne_B38 : after ((start []).setPc 0xFFF) 0x0A0002000005 (fun t => t.pc == 0) = true := by decide
theorem test_blt_B16 : after ((start [(4, 0xFFFFFFFF), (5, 1), (6, 0x12345)]).setPc 0x10) 0x0B0456000000 (fun t => t.pc == 0x345) = true := by decide
theorem test_blt_B13 : after ((start [(4, 5), (5, 5), (6, 0x12345)]).setPc 0x10) 0x0B0456000000 (fun t => t.pc == 0x011) = true := by decide
theorem test_bgt_B23 : after ((start [(4, 1), (5, 0xFFFFFFFF), (6, 0x12345)]).setPc 0x10) 0x0C0456000000 (fun t => t.pc == 0x345) = true := by decide
theorem test_bgt_B19 : after ((start [(4, 5), (5, 5), (6, 0x12345)]).setPc 0x10) 0x0C0456000000 (fun t => t.pc == 0x011) = true := by decide
theorem test_ble_B30 : after ((start [(4, 0x80000000), (5, 0x7FFFFFFF), (6, 0x12345)]).setPc 0x10) 0x0D0456000000 (fun t => t.pc == 0x345) = true := by decide
theorem test_ble_B29 : after ((start [(4, 1), (5, 0xFFFFFFFF), (6, 0x12345)]).setPc 0x10) 0x0D0456000000 (fun t => t.pc == 0x011) = true := by decide
theorem test_bge_B31 : after ((start [(4, 5), (5, 5), (6, 0x12345)]).setPc 0x10) 0x0E0456000000 (fun t => t.pc == 0x345) = true := by decide
theorem test_bge_B36 : after ((start [(4, 0x80000000), (5, 0x7FFFFFFF), (6, 0x12345)]).setPc 0x10) 0x0E0456000000 (fun t => t.pc == 0x011) = true := by decide
theorem test_jal_B42 : after ((start []).setPc 0xFFF) 0x0FF002000064 (fun t => t.reg 15 == 0x1000 && t.pc == 0x064) = true := by decide
theorem test_jal_B43 : after ((start [(15, 0x12345)]).setPc 0x20) 0x0FF00F000000 (fun t => t.reg 15 == 0x21 && t.pc == 0x345) = true := by decide
theorem test_lw_M6 : after ((start [(4, 0xFFF)]).memWrite 0xFFF 0xFFFFFFFF) 0x103401001000 (fun t => t.reg 3 == 0 && t.diags == []) = true := by decide
theorem test_lw_M3 : after (start [(4, 0x1000)]) 0x103401007000 (fun t => t.reg 3 == 7 && t.pc == 1 && t.diags == [.memAddr 0x1000]) = true := by decide
theorem test_sw_M16 : after (start [(3, 0x21), (4, 0xFFF)]) 0x113403000000 (fun t => t.dmem == [(0xFFF, 0x42)]) = true := by decide
theorem test_sw_M14 : after (start [(4, 0x7FFFFFFF)]) 0x110440000000 (fun t => t.dmem == [] && t.diags == [.memAddr 0xFFFFFFFE]) = true := by decide
theorem test_reti_Y1 : after (((slots [(.irqreturn, 0x123)]).setPc 0x30).setIsr true) 0x120000000000 (fun t => t.pc == 0x123 && t.isr == false && t.ioAt .irqreturn == 0x123) = true := by decide
theorem test_reti_Y2 : after ((slots [(.irqreturn, 5)]).setPc 0x30) 0x12FEDC7FF800 (fun t => t.pc == 5 && t.isr == false && t.reg 2 == 0xFFFFF800 && t.reg 15 == 0) = true := by decide
theorem test_in_Y4 : after (start []) 0x133010008000 (fun t => t.reg 3 == 1) = true := by decide
theorem test_in_Y5 : after (start [(3, 0x99)]) 0x133010017000 (fun t => t.reg 3 == 0 && t.pc == 1 && t.diags == [.ioIndex 0x17]) = true := by decide
theorem test_out_Y22 : after (start [(4, 0xFFFFFFFF)]) 0x14001400F000 (fun t => t.ioAt .disksector == 0x7F && t.diags == []) = true := by decide
theorem test_out_Y25 : after (start [(4, 0xFFFFFFFF)]) 0x140014012000 (fun t => t.ioAt .reserved18 == 0 && t.diags == []) = true := by decide
theorem test_halt_Y34 : after (((start []).setPc 0x30).setIsr true) 0x153456001002 (fun t => t.halted && t.pc == 0x030 && t.isr && t.reg 1 == 1 && t.reg 3 == 0 && t.trace.length == 1) = true := by decide
theorem test_unsupported_Y35 : after ((start [(3, 0x77)]).setPc 9) 0x163456123456 (fun t => t.pc == 0x00A && t.reg 1 == 0x123 && t.reg 2 == 0x456 && t.reg 3 == 0x77 && t.diags == [.opcode 0x16]) = true := by decide
theorem test_unsupported_Y36 : after ((start []).setPc 0xFFF) 0xFF3456000000 (fun t => t.pc == 0 && t.diags == [.opcode 0xFF]) = true := by decide

/-! ### Devices, one tick or one cycle -/

theorem test_timer_T6 :
    cycleOf (slots [(.timerenable, 1), (.timermax, 5), (.timercurrent, 5)]) (fun t => t.ioAt .irq0status == 1 && t.ioAt .timercurrent == 0) = true := by decide
theorem test_timer_T4 :
    cycleOf (slots [(.timerenable, 1), (.timermax, 5), (.timercurrent, 0xFFFFFFFF)]) (fun t => t.ioAt .irq0status == 0 && t.ioAt .timercurrent == 0) = true := by decide
theorem test_disk_K5 :
    cycleOf (slots [(.diskcmd, 3)]) (fun t => t.ioAt .diskcmd == 3 && t.ioAt .diskstatus == 0 && t.diags == [.diskCmd 3]) = true := by decide
theorem test_disk_busy_K1_last_cycle :
    cycleOf ((slots [(.diskcmd, 2), (.diskstatus, 1)]).setDiskRemaining 1) (fun t => t.ioAt .diskcmd == 0 && t.ioAt .diskstatus == 0 && t.ioAt .irq1status == 1 && t.diskRemaining == 0) = true := by decide
/-- Two bytes of K1's transfer into the second word: 0x55 replaces the most significant byte, zero the next. -/
theorem test_disk_K1_bytes :
    (readSectorByte 3 0x10 (readSectorByte 3 0x10
      ((State.reset.setDisk [(1540, 0x55)]).setDmem [(0x11, 0xAABBCCDD)]) 4) 5).dmem = [(0x11, 0x5500CCDD)] := by decide
/-- Byte 6 of K3's transfer: the third byte of 0xA1B2C3D4. -/
theorem test_disk_K3_byte :
    (writeSectorByte 127 0xFFE (State.reset.setDmem [(0xFFF, 0xA1B2C3D4)]) 6).disk = [(127 * 512 + 6, 0xC3)] := by decide
/-- Byte 8 of K3's transfer: its word is out of range, so the byte becomes zero and MemAddr(4096) leaves. -/
theorem test_disk_K3_out_of_range :
    (writeSectorByte 127 0xFFE (State.reset.setDisk [(127 * 512 + 8, 0x99)]) 8).disk = [] ∧
    (writeSectorByte 127 0xFFE State.reset 8).diags = [.memAddr 4096] := by decide
theorem test_dispatch_I1 :
    cycleOf ((slots [(.irq0enable, 1), (.irq0status, 1), (.irqhandler, 0x200)]).setPc 0x055) (fun t => t.ioAt .irqreturn == 0x055 && t.isr && t.pc == 0x201 && t.ioAt .irq0status == 1) = true := by decide
theorem test_dispatch_I3 :
    cycleOf ((slots [(.irq1enable, 1), (.irq2enable, 1), (.irq0status, 1)]).setPc 0x055) (fun t => t.isr == false && t.pc == 0x056) = true := by decide
theorem test_dispatch_I4 :
    cycleOf (((slots [(.irq0enable, 1), (.irq0status, 1), (.irq1enable, 1), (.irq1status, 1)]).setPc 0x055).setIsr true) (fun t => t.ioAt .irqreturn == 0 && t.pc == 0x056 && t.isr) = true := by decide
theorem test_dispatch_I6 :
    cycleOf ((slots [(.irq0enable, 1), (.timerenable, 1), (.timercurrent, 5), (.timermax, 5), (.irqhandler, 0x100)]).setPc 0x010) (fun t => t.ioAt .irqreturn == 0x010 && t.pc == 0x101 && t.isr && t.ioAt .timercurrent == 0) = true := by decide
theorem test_dispatch_I7 :
    cycleOf (((slots [(.irq1enable, 1), (.diskcmd, 1), (.diskstatus, 1), (.irqhandler, 0x100)]).setDiskRemaining 1).setPc 0x010) (fun t => t.ioAt .irqreturn == 0x010 && t.pc == 0x101 && t.ioAt .irq1status == 1) = true := by decide
theorem test_dispatch_I8 :
    cycleOf (((slots [(.irq2enable, 1), (.irqhandler, 0x100)]).setExtSched [(0, true)]).setPc 0x010) (fun t => t.ioAt .irq2status == 1 && t.ioAt .irqreturn == 0x010 && t.pc == 0x101) = true := by decide
theorem test_dispatch_I10 :
    cycleOf ((slots [(.irq2enable, 1), (.irq2status, 1)]).setPc 0xFFF) (fun t => t.ioAt .irqreturn == 0xFFF && t.pc == 1) = true := by decide
theorem test_monitor_V1 :
    cycleOf (slots [(.monitorcmd, 1), (.monitoraddr, 0x0102), (.monitordata, 0xEF)]) (fun t => t.mon == [(258, 0xEF)] && t.pixel 1 2 == 0xEF && t.ioAt .monitorcmd == 0) = true := by decide
theorem test_monitor_V3 :
    cycleOf (slots [(.monitoraddr, 0x0102), (.monitordata, 0xEF)]) (fun t => t.mon == []) = true := by decide
theorem test_monitor_V4 :
    cycleOf ((slots [(.monitorcmd, 1)]).setMon [(0, 7)]) (fun t => t.mon == [] && t.ioAt .monitorcmd == 0) = true := by decide

/-- The record of the trace port shows the immediates already loaded (program P1, first record). -/
theorem test_trace_P1 :
    after State.reset 0x00401000A000 (fun t => match t.trace with
      | [r] => r.pc == 0 && r.inst == 0x00401000A000 && r.x[1] == 10 && r.x[4] == 0
      | _ => false) = true := by decide
/-- A halted machine performs no cycle (E11). -/
theorem test_halted_stays : cycleOf (State.reset.setHalted true) (fun t => t == State.reset.setHalted true) = true := by decide

/-! ### Witnesses: the hypotheses of the statements can be met -/

/-- States without a diagnostic whose slots are in range satisfy the invariant. -/
theorem inv_of {s : State} (h0 : s.regs[0] = 0) (hio : ∀ r : IoReg, (s.ioAt r).toNat < 2 ^ r.width)
    (hd : s.diskRemaining ≤ config.diskLatency) (h1 : s.dmem = []) (h2 : s.disk = []) (h3 : s.mon = [])
    (h4 : s.imem = []) (h5 : s.trace.length = s.cycle) (h6 : s.diags = []) : s.Inv :=
  ⟨h0, hio, hd, by rw [h1]; rfl, by rw [h2]; rfl, by rw [h3]; rfl, by rw [h4]; rfl, h5, by rw [h6]; simp⟩

/-- An enabled line pending outside a handler. -/
def pendingState : State := (slots [(.irq0enable, 1), (.irq0status, 1), (.irqhandler, 0xFFF), (.irqreturn, 0xFFF)]).setPc 0x055

theorem pendingState_inv : pendingState.Inv :=
  inv_of rfl (by intro r; cases r <;> decide) (by decide) rfl rfl rfl rfl rfl rfl

/-- A pending line that is not enabled. -/
def maskedState : State := slots [(.irq0status, 1)]

theorem maskedState_inv : maskedState.Inv :=
  inv_of rfl (by intro r; cases r <;> decide) (by decide) rfl rfl rfl rfl rfl rfl

theorem witness_DecodeEncodeRoundTrip : (Instr.halt ⟨15, 15, 15, 15, -2048, 2047⟩).wellFormed = true := by decide
theorem witness_DecodeIsTotal_first : topByte 0x000000000000 ≤ 21 ∧ topByte 0x15FFFFFFFFFF ≤ 21 := by decide
theorem witness_DecodeIsTotal_second : 22 ≤ topByte 0x160000000000 ∧ 22 ≤ topByte 0xFFFFFFFFFFFF := by decide
theorem witness_EncodedBy_logic : topByte 0x03FFFFFFFFFF = 3 ∧ topByte 0x040000000000 = 4 ∧ topByte 0x050000000000 = 5 := by decide
theorem witness_EncodedBy_others : topByte 0x090000000000 = 9 ∧ topByte 0x0A0000000000 = 10 ∧ topByte 0x110000000000 = 17 ∧
    topByte 0x120000000000 = 18 ∧ topByte 0x140000000000 = 20 := by decide
theorem witness_LoadWord_inRange : ((start [(4, 4095)]).reg 4 + (start [(4, 4095)]).reg 0).toNat < 4096 := by decide
theorem witness_LoadWord_outOfRange : 4096 ≤ ((start [(4, 4096)]).reg 4 + (start [(4, 4096)]).reg 0).toNat := by decide
theorem witness_StoreWord_inRange : (effectiveIndex (latch ⟨3, 4, 0, 0, 0, 0⟩ (start [(4, 4095)]))).toNat < 4096 := by decide
theorem witness_StoreWord_outOfRange : 4096 ≤ (effectiveIndex (latch ⟨3, 4, 0, 0, 0, 0⟩ (start [(4, 4096)]))).toNat := by decide
theorem witness_RetiPending : pendingState.Inv ∧ SomeLinePending pendingState := ⟨pendingState_inv, .inl (by decide)⟩
theorem witness_InOut_lastSlot : ((start [(4, 22)]).reg 4 + (start [(4, 22)]).reg 0).toNat = IoReg.monitorcmd.index.val := by decide
theorem witness_InOut_reservedSlot : ((start [(4, 18)]).reg 4 + (start [(4, 18)]).reg 0).toNat = IoReg.reserved18.index.val ∧
    IoReg.reserved18.width = 0 ∧ IoReg.irq0enable ≠ .reserved18 := by decide
theorem witness_InOut_outside : 23 ≤ ((start [(4, 23)]).reg 4 + (start [(4, 23)]).reg 0).toNat := by decide
theorem witness_UnsupportedOpcode : (State.reset.withFetchWord 48 0x160000000000).halted = false ∧
    22 ≤ topByte (fetchedWord (State.reset.withFetchWord 48 0x160000000000)) := by decide
theorem witness_UnusedFields : (⟨3, 4, 5, 6, 1, 2⟩ : Fields) ≠ ⟨3, 4, 5, 7, 8, 9⟩ ∧ (⟨3, 4, 5, 6, 1, 2⟩ : Fields).rd = (⟨3, 4, 5, 7, 8, 9⟩ : Fields).rd ∧
    (⟨3, 4, 5, 6, 1, 2⟩ : Fields).rs = (⟨3, 4, 5, 7, 8, 9⟩ : Fields).rs ∧ (⟨3, 4, 5, 6, 1, 2⟩ : Fields).rt = (⟨3, 4, 5, 7, 8, 9⟩ : Fields).rt := by decide
theorem witness_UnusedFields_branch : (⟨3, 4, 5, 6, 1, 2⟩ : Fields) ≠ ⟨9, 4, 5, 6, 0, 0⟩ ∧ (⟨3, 4, 5, 6, 1, 2⟩ : Fields).rs = (⟨9, 4, 5, 6, 0, 0⟩ : Fields).rs ∧
    (⟨3, 4, 5, 6, 1, 2⟩ : Fields).rt = (⟨9, 4, 5, 6, 0, 0⟩ : Fields).rt ∧ (⟨3, 4, 5, 6, 1, 2⟩ : Fields).rm = (⟨9, 4, 5, 6, 0, 0⟩ : Fields).rm := by decide
theorem witness_UnusedFields_jal : (⟨3, 4, 5, 6, 1, 2⟩ : Fields) ≠ ⟨3, 0, 0, 6, 0, 0⟩ ∧ (⟨3, 4, 5, 6, 1, 2⟩ : Fields).rd = (⟨3, 0, 0, 6, 0, 0⟩ : Fields).rd ∧
    (⟨3, 4, 5, 6, 1, 2⟩ : Fields).rm = (⟨3, 0, 0, 6, 0, 0⟩ : Fields).rm := by decide
theorem witness_RegisterZero : ∃ t, exec (.add ⟨0, 4, 4, 4, 0, 0⟩) (start [(4, 1)]) = .next t := ⟨_, rfl⟩
theorem witness_OnlyListed : ∃ t, exec (.add ⟨3, 4, 4, 4, 0, 0⟩) (start [(4, 1)]) = .next t ∧ t.reg 3 ≠ (start [(4, 1)]).reg 3 := ⟨_, rfl, by decide⟩
theorem witness_RunningStep : State.reset.halted = false ∧ ∃ t, step State.reset = .next t := ⟨rfl, _, rfl⟩
theorem witness_BusSlots : (22 : Word).toNat = IoReg.monitorcmd.index.val ∧ 23 ≤ (23 : Word).toNat ∧ (18 : Word).toNat = IoReg.reserved18.index.val := by decide
theorem witness_StepRunsDecoded : State.reset.halted = false ∧ decode (fetchedWord State.reset) = .instr (.add ⟨0, 0, 0, 0, 0, 0⟩) := by decide
theorem witness_OnlyHalt_halted : (State.reset.setHalted true).halted = true := rfl
theorem witness_OnlyHalt_byHalt : cycleOf (State.reset.withFetchWord 48 0x150000000000) (fun t => t.halted) = true ∧
    decode (fetchedWord (State.reset.withFetchWord 48 0x150000000000)) = .instr (.halt ⟨0, 0, 0, 0, 0, 0⟩) := by decide
theorem witness_FetchHandler : (beforeDispatch pendingState).irqPending = true ∧ pendingState.isr = false := by decide
theorem witness_Isr : ∃ t, exec (.reti ⟨0, 0, 0, 0, 0, 0⟩) (State.reset.setIsr true) = .next t := ⟨_, rfl⟩
theorem witness_Clock_neverWritten : (State.reset.ioAt .clks).toNat = State.reset.cycle % 2 ^ 32 := by decide
theorem witness_Timer_disabled : State.reset.ioAt .timerenable ≠ 1 := by decide
theorem witness_Timer_enabled : (slots [(.timerenable, 1), (.timermax, 5)]).ioAt .timerenable = 1 ∧ (slots [(.timerenable, 1), (.timermax, 5)]).ioAt .timercurrent = 0 ∧
    5 ≤ ((slots [(.timerenable, 1), (.timermax, 5)]).ioAt .timermax).toNat := by decide
theorem witness_Timer_atMax : (slots [(.timerenable, 1), (.timermax, 0)]).ioAt .timerenable = 1 ∧
    (slots [(.timerenable, 1), (.timermax, 0)]).ioAt .timercurrent = (slots [(.timerenable, 1), (.timermax, 0)]).ioAt .timermax := by decide
theorem witness_External : ((State.reset.setExtSched [(0, true)]).cycle, true) ∈ (State.reset.setExtSched [(0, true)]).extSched ∧
    ((State.reset.setExtSched [(0, false)]).cycle, true) ∉ (State.reset.setExtSched [(0, false)]).extSched := by decide
theorem witness_BusyDisk : 0 < (State.reset.setDiskRemaining 1).diskRemaining ∧ 0 < (State.reset.setDiskRemaining 1024).diskRemaining := by decide
theorem witness_ReadyDisk_none : State.reset.diskRemaining = 0 ∧ State.reset.ioAt .diskcmd = 0 := by decide
theorem witness_ReadyDisk_read : (slots [(.diskcmd, 1), (.disksector, 127)]).diskRemaining = 0 ∧ (slots [(.diskcmd, 1), (.disksector, 127)]).ioAt .diskcmd = 1 ∧
    ((slots [(.diskcmd, 1), (.disksector, 127)]).ioAt .disksector).toNat < 128 := by decide
theorem witness_ReadyDisk_write : (slots [(.diskcmd, 2)]).diskRemaining = 0 ∧ (slots [(.diskcmd, 2)]).ioAt .diskcmd = 2 ∧
    ((slots [(.diskcmd, 2)]).ioAt .disksector).toNat < 128 := by decide
theorem witness_ReadyDisk_sector : (slots [(.diskcmd, 1), (.disksector, 128)]).diskRemaining = 0 ∧ (slots [(.diskcmd, 1), (.disksector, 128)]).ioAt .diskcmd = 1 ∧
    128 ≤ ((slots [(.diskcmd, 1), (.disksector, 128)]).ioAt .disksector).toNat := by decide
theorem witness_ReadyDisk_invalid : (slots [(.diskcmd, 3)]).diskRemaining = 0 ∧ (slots [(.diskcmd, 3)]).ioAt .diskcmd ≠ 0 ∧
    (slots [(.diskcmd, 3)]).ioAt .diskcmd ≠ 1 ∧ (slots [(.diskcmd, 3)]).ioAt .diskcmd ≠ 2 := by decide
theorem witness_Sector : 127 < 128 ∧ (0xFFE : Word).toNat < 4096 ∧ (0xFFE : Word).toNat + 1 < 4096 ∧ ¬ (0xFFE : Word).toNat + 2 < 4096 := by decide
theorem witness_DiskLatency : ∃ t, 2 ≤ (State.reset.setDiskRemaining 2).diskRemaining ∧
    Sys2Proof.core.run 2 (State.reset.setDiskRemaining 2) = .next t ∧ t.halted = false := ⟨_, Nat.le_refl 2, rfl, rfl⟩
theorem witness_Dispatcher_taken : pendingState.Inv ∧ SomeLinePending pendingState ∧ pendingState.isr = false := ⟨pendingState_inv, .inl (by decide), rfl⟩
theorem witness_Dispatcher_notTaken : maskedState.Inv ∧ ¬ (SomeLinePending maskedState ∧ maskedState.isr = false) := ⟨maskedState_inv, by
    rintro ⟨h | h | h, _⟩ <;> exact absurd h (by decide)⟩
theorem witness_NoNesting : ∃ t, (State.reset.setIsr true).isr = true ∧ exec (.reti ⟨0, 0, 0, 0, 0, 0⟩) (State.reset.setIsr true) = .next t ∧ t.isr = false := ⟨_, rfl, rfl, rfl⟩
theorem witness_ReturnResumes : State.reset.isr = false := rfl
theorem witness_StatusBits_stays : isStatusSlot .irq0status ∧ (slots [(.irq0status, 1)]).halted = false ∧ (slots [(.irq0status, 1)]).ioAt .irq0status = 1 ∧
    ∃ t, step (slots [(.irq0status, 1)]) = .next t := ⟨.inl rfl, rfl, by decide, _, rfl⟩
theorem witness_StatusBits_cleared : after (slots [(.irq0status, 1)]) 0x140010003000 (fun t => t.ioAt .irq0status == 0) = true := by decide
theorem witness_Monitor_command : (slots [(.monitorcmd, 1), (.monitoraddr, 0xFFFF)]).ioAt .monitorcmd = 1 ∧
    ((slots [(.monitorcmd, 1), (.monitoraddr, 0xFFFF)]).ioAt .monitoraddr).toNat / 256 < 256 ∧ State.reset.ioAt .monitorcmd ≠ 1 := by decide
theorem witness_Monitor_outside : (slots [(.monitorcmd, 1), (.monitoraddr, 0x10000)]).ioAt .monitorcmd = 1 ∧
    256 ≤ ((slots [(.monitorcmd, 1), (.monitoraddr, 0x10000)]).ioAt .monitoraddr).toNat / 256 := by decide
theorem witness_StepKeepsInvariant : pendingState.Inv ∧ ∃ t, step pendingState = .next t := ⟨pendingState_inv, _, rfl⟩
theorem witness_Launch : (0 : Nat) < 4096 ∧ 4095 < 4096 ∧ 65535 < 65536 := by decide

end Sys2Proof.Tests
end

section
/-! PROOFS. The immediate registers over one cycle (spec/10_state.md R22, R23; spec/40_cycle_pipeline.md R135): loaded
before execute, and out of every instruction's reach in it. -/

namespace Sys2Proof.Machine

/-! ### What the execute stage does to one register -/

/-- A write to `x[rd]` reaches only register rd, and only from R3 on (R21, R23). -/
theorem State.reg_writeReg_eq_or (s : State) (rd : RegNum) (v : Word) (q : RegNum) :
    (s.writeReg rd v).reg q = s.reg q ∨ (q = rd ∧ 3 ≤ rd.val) := by
  rw [State.reg_writeReg]
  by_cases hq : q = rd ∧ 3 ≤ rd.val
  · exact .inr hq
  · exact .inl (if_neg hq)

/-- What an instruction can do to a register: keep it or, if it is one that writes, write its own rd from R3 on. -/
theorem exec_reg_eq_or {i : Instr} {s t : State} (h : exec i s = .next t) (q : RegNum) :
    t.reg q = s.reg q ∨ (writesRd i = true ∧ q = i.fields.rd ∧ 3 ≤ i.fields.rd.val) := by
  cases i <;> injection h with h <;> subst h
  case add f | sub f | mac f | and f | or f | xor f | sll f | sra f | srl f | jal f =>
    exact (s.reg_writeReg_eq_or f.rd _ q).imp_right (⟨rfl, ·⟩)
  case lw f =>
    exact ((State.reg_writeReg_eq_or _ f.rd _ q).imp_left (·.trans (s.memRead_reg _ q))).imp_right (⟨rfl, ·⟩)
  case in_ f =>
    exact ((State.reg_writeReg_eq_or _ f.rd _ q).imp_left (·.trans (s.ioRead_reg _ q))).imp_right (⟨rfl, ·⟩)
  case beq | bne | blt | bgt | ble | bge => exact .inl (s.branch_reg _ _ q)
  case sw => exact .inl (s.memWrite_reg _ _ q)
  case out => exact .inl (s.ioWrite_reg _ _ q)
  case reti | halt => exact .inl rfl

/-- No instruction changes R0, R1 or R2 (R21, R23). -/
theorem exec_reg_of_lt_three {i : Instr} {s t : State} (h : exec i s = .next t) {q : RegNum} (hq : q.val < 3) :
    t.reg q = s.reg q := by
  obtain hkeep | ⟨-, rfl, hrd⟩ := exec_reg_eq_or h q
  · exact hkeep
  · omega

/-- A running step ends with R0, R1 and R2 as its execute stage found them, unsupported opcodes included. -/
theorem step_reg_of_lt_three {s t : State} (hs : s.halted = false) (h : step s = .next t) {q : RegNum}
    (hq : q.val < 3) : t.reg q = (executeState s).reg q := by
  obtain ⟨i, -, hexec⟩ | ⟨op, -, rfl⟩ := step_cases hs h
  · exact exec_reg_of_lt_three hexec hq
  · simp

/-! ### The obligation -/

/-- Settles O21: `executeState_reg` is the first clause, since `fieldsOf` cuts those bits out of the word; from there
on no step changes R1 or R2. -/
theorem immediateRegistersHoldFetchedImmediates : Obligations.ImmediateRegistersHoldFetchedImmediates := by
  unfold Obligations.ImmediateRegistersHoldFetchedImmediates
  intro s
  refine ⟨executeState_reg s, fun t hs h => ⟨?_, ?_⟩⟩
  · exact (step_reg_of_lt_three hs h (by decide)).trans (executeState_reg s 1)
  · exact (step_reg_of_lt_three hs h (by decide)).trans (executeState_reg s 2)

end Sys2Proof.Machine
end

section
/-! PROOFS. Register 0 (spec/10_state.md R21): it reads zero in every state and discards every write. -/

namespace Sys2Proof.Machine

/-- A write to R0, R1 or R2 is discarded as a whole: the state stays the same (R21, R23). -/
theorem State.writeReg_of_lt_three (s : State) {r : RegNum} (hr : r.val < 3) (v : Word) : s.writeReg r v = s := by
  have hnot : ¬ writableReg r = true := by simpa [writableReg] using hr
  rw [State.writeReg, if_neg hnot]

/-- Settles O19: `State.reg` answers zero at R0 whatever is stored, so the state after an instruction is no special
case, and R0 is among the registers whose writes are discarded. -/
theorem registerZeroIsHardwired : Obligations.RegisterZeroIsHardwired := by
  unfold Obligations.RegisterZeroIsHardwired
  refine ⟨fun s => s.reg_zero, fun s v => s.writeReg_of_lt_three (by decide) v, ?_⟩
  intro i s t _
  exact t.reg_zero

end Sys2Proof.Machine
end

section
/-! PROOFS. The state steps 1 to 4 of a cycle hand to the interrupt dispatcher, and what the dispatcher does to the program
counter (spec/40_cycle_pipeline.md R131; spec/60_exceptions.md R250). -/

namespace Sys2Proof.Machine

variable (s : State)

/-- The disk controller writes no slot but diskcmd, diskstatus and irq1status (R241, R242). -/
theorem tickDisk_ioAt_of_ne {q : IoReg} (hcmd : q ≠ .diskcmd) (hstatus : q ≠ .diskstatus) (hirq : q ≠ .irq1status) :
    (tickDisk s).ioAt q = s.ioAt q := by
  rw [tickDisk_eq]
  split
  · simp [tickDiskBusy_ioAt, hcmd, hstatus, hirq]
  · simp [tickDiskReady_ioAt, hstatus]

/-- Steps 5 and 6 run on what steps 1 to 4 left (R131). -/
theorem devicePhase_eq : devicePhase s = serviceMonitor (dispatchInterrupt (beforeDispatch s)) := rfl

@[simp] theorem beforeDispatch_pc : (beforeDispatch s).pc = s.pc := by simp [beforeDispatch]
@[simp] theorem beforeDispatch_isr : (beforeDispatch s).isr = s.isr := by simp [beforeDispatch]
@[simp] theorem beforeDispatch_imem : (beforeDispatch s).imem = s.imem := by simp [beforeDispatch]

/-- No device before the dispatcher writes irqhandler. -/
@[simp] theorem beforeDispatch_irqhandler : (beforeDispatch s).ioAt .irqhandler = s.ioAt .irqhandler := by
  rw [beforeDispatch, tickDisk_ioAt_of_ne _ (by decide) (by decide) (by decide)]
  simp [sampleExternal_ioAt, tickTimer_ioAt, tickClock_ioAt]

/-- Of the devices before the dispatcher only the clock writes clks. -/
@[simp] theorem beforeDispatch_clks : (beforeDispatch s).ioAt .clks = s.ioAt .clks + 1 := by
  rw [beforeDispatch, tickDisk_ioAt_of_ne _ (by decide) (by decide) (by decide)]
  simp [sampleExternal_ioAt, tickTimer_ioAt, tickClock_ioAt]

/-- The dispatcher sends pc to the handler exactly when it takes an interrupt (R250, R252). -/
theorem dispatchInterrupt_pc : (dispatchInterrupt s).pc =
    if s.irqPending = true ∧ s.isr = false then low12 (s.ioAt .irqhandler) else s.pc := by
  by_cases h : s.irqPending = true ∧ s.isr = false
  · simp [dispatchInterrupt, State.takeInterrupt, h]
  · rw [if_neg h, dispatchInterrupt, if_neg (by simpa using h)]

end Sys2Proof.Machine
end

section
/-! PROOFS. The fetch reads at the pc the dispatcher left (spec/40_cycle_pipeline.md R133). -/

namespace Sys2Proof.Machine

/-- Between the dispatcher and the fetch nothing moves pc, and no device writes instruction memory. -/
theorem fetchedWord_eq (s : State) :
    fetchedWord s = s.imem.read (dispatchInterrupt (beforeDispatch s)).pc.toNat := by
  simp [fetchedWord, fetch, beforeFetch_eq, devicePhase_eq]

/-- Settles O29: the pc of the fetch is the dispatcher's, and steps 1 to 4 have left irqhandler, pc and the ISR flag as
they were when the cycle began. -/
theorem fetchReadsHandlerInTheDispatchCycle : Obligations.FetchReadsHandlerInTheDispatchCycle := by
  unfold Obligations.FetchReadsHandlerInTheDispatchCycle
  intro s
  rw [fetchedWord_eq, dispatchInterrupt_pc, beforeDispatch_isr]
  split
  · simp [low12]
  · simp

end Sys2Proof.Machine
end

section
/-! PROOFS. The clock (spec/40_cycle_pipeline.md R132): its tick, and the count the cycle's instruction reads. -/

namespace Sys2Proof.Machine

/-- Steps 2 to 9 leave clks at the value the clock tick gave it. -/
theorem executeState_clks (s : State) : (executeState s).ioAt .clks = (tickClock s).ioAt .clks := by
  rw [executeState_ioAt, devicePhase_eq, tickClock_ioAt]
  simp [serviceMonitor_ioAt, dispatchInterrupt_ioAt]

/-- The tick adds one modulo 2^32 to clks. -/
theorem tickClock_clks_toNat (s : State) :
    ((tickClock s).ioAt .clks).toNat = ((s.ioAt .clks).toNat + 1) % 2 ^ 32 := by
  simp [tickClock_ioAt, BitVec.toNat_add]

/-- The tick touches no other slot. -/
theorem tickClock_ioAt_of_ne (s : State) {r : IoReg} (hr : r ≠ .clks) : (tickClock s).ioAt r = s.ioAt r := by
  rw [tickClock_ioAt, if_neg hr]

/-- The tick touches none of the hidden fields. -/
theorem tickClock_keepsHidden (s : State) : KeepsHidden s (tickClock s) := by simp [KeepsHidden]

/-- Settles O31: the tick's own lemmas give its effect and frame; `executeState_clks` carries the new value to the
execute stage, and the order of the steps is `devicePhase`'s own. -/
theorem clockCountsEveryCycle : Obligations.ClockCountsEveryCycle := by
  unfold Obligations.ClockCountsEveryCycle
  intro s
  have hexec : ((executeState s).ioAt .clks).toNat = ((s.ioAt .clks).toNat + 1) % 2 ^ 32 := by
    rw [executeState_clks, tickClock_clks_toNat]
  refine ⟨tickClock_clks_toNat s, fun r hr => tickClock_ioAt_of_ne s hr, tickClock_reg s,
    ⟨tickClock_isr s, tickClock_halted s⟩, tickClock_pc s, fun a => by rw [tickClock_dmem], tickClock_keepsHidden s,
    tickClock_diags s, hexec, fun hnever => ?_, rfl⟩
  rw [hexec, hnever, Nat.mod_add_mod]

end Sys2Proof.Machine
end

section
/-! PROOFS. From an opcode number to the decoder's answer (spec/30_encoding.md R104), and the instructions that end by
writing `x[rd]` and advancing pc (spec/40_cycle_pipeline.md R139). -/

namespace Sys2Proof.Machine

/-- A row of the opcode map says what every word with that opcode field decodes to: the decoder's opcode field is
`topByte`. -/
theorem encodedBy_of_instrOf {n : Nat} {c : Fields → Instr} (h : ∀ f, instrOf n f = some (c f)) : EncodedBy n c := by
  intro w hw
  have hop : (opcodeOf w).toNat = n := (opcodeOf_toNat w).trans hw
  exact decode_of_instrOf (by rw [hop, h])

/-- The end of a register instruction touches none of the hidden fields. -/
theorem State.writeAndAdvance_keepsHidden (s : State) (rd : RegNum) (v : Word) :
    KeepsHidden s (s.writeAndAdvance rd v) := by simp [KeepsHidden]

/-- An instruction that answers with `writeAndAdvance` writes its register, advances pc, and changes nothing else. -/
theorem writesRegOnly_of_exec {i : Instr} {s : State} {rd : RegNum} {v : Word}
    (h : exec i s = .next (s.writeAndAdvance rd v)) : WritesRegOnly i s rd v := by
  have hpc : PcAdvanced s (s.writeAndAdvance rd v) := by rw [PcAdvanced, State.writeAndAdvance_pc, pc_succ_toNat]
  exact ⟨_, h, s.writeAndAdvance_reg rd v, hpc, ⟨s.writeAndAdvance_isr rd v, s.writeAndAdvance_halted rd v⟩,
    s.writeAndAdvance_ioAt rd v, fun a => by rw [State.writeAndAdvance_dmem], s.writeAndAdvance_keepsHidden rd v,
    s.writeAndAdvance_diags rd v⟩

end Sys2Proof.Machine
end

section
/-! PROOFS. The bitwise instructions (spec/41_arith_logic.md R153 to R155). -/

namespace Sys2Proof.Machine

theorem exec_and (f : Fields) (s : State) :
    exec (.and f) s = .next (s.writeAndAdvance f.rd (s.reg f.rs &&& s.reg f.rt &&& s.reg f.rm)) := rfl

theorem exec_or (f : Fields) (s : State) :
    exec (.or f) s = .next (s.writeAndAdvance f.rd (s.reg f.rs ||| s.reg f.rt ||| s.reg f.rm)) := rfl

theorem exec_xor (f : Fields) (s : State) :
    exec (.xor f) s = .next (s.writeAndAdvance f.rd (s.reg f.rs ^^^ s.reg f.rt ^^^ s.reg f.rm)) := rfl

/-- Settles O5: the three opcodes are rows of the opcode map, and each instruction ends with `writeAndAdvance` on the
bitwise result of its latched sources. -/
theorem andOrXorWriteBitwiseResult : Obligations.AndOrXorWriteBitwiseResult := by
  unfold Obligations.AndOrXorWriteBitwiseResult
  refine ⟨encodedBy_of_instrOf fun _ => rfl, encodedBy_of_instrOf fun _ => rfl, encodedBy_of_instrOf fun _ => rfl, ?_⟩
  intro f s
  exact ⟨writesRegOnly_of_exec (exec_and f s), writesRegOnly_of_exec (exec_or f s), writesRegOnly_of_exec (exec_xor f s)⟩

end Sys2Proof.Machine
end

section
/-! PROOFS. The conditional branches (spec/43_branch_jump.md R170), and the two that compare for equality (R171, R172). -/

namespace Sys2Proof.Machine

/-- A conditional branch touches none of the hidden fields. -/
theorem State.branch_keepsHidden (s : State) (o : Operands) (cond : Bool) : KeepsHidden s (s.branch o cond) := by
  simp [KeepsHidden]

/-- An instruction that answers with `branch` on its latched operands sets pc by the condition, here said as the
proposition `P`, and changes nothing else. -/
theorem setsPcOnly_of_exec {i : Instr} {f : Fields} {s : State} {cond : Bool} {P : Prop} [Decidable P]
    (h : exec i s = .next (s.branch (latch f s) cond)) (hcond : cond = true ↔ P) :
    SetsPcOnly i s (if P then (s.reg f.rm).toNat % 4096 else (s.pc.toNat + 1) % 4096) := by
  have hpc : (s.branch (latch f s) cond).pc.toNat =
      if P then (s.reg f.rm).toNat % 4096 else (s.pc.toNat + 1) % 4096 :=
    (branch_pc s (latch f s) cond).trans (if_congr hcond rfl rfl)
  exact ⟨_, h, hpc, s.branch_reg _ _, ⟨s.branch_isr _ _, s.branch_halted _ _⟩, s.branch_ioAt _ _,
    fun a => by rw [State.branch_dmem], s.branch_keepsHidden _ _, s.branch_diags _ _⟩

theorem exec_beq (f : Fields) (s : State) :
    exec (.beq f) s = .next (s.branch (latch f s) (condEq (latch f s))) := rfl

theorem exec_bne (f : Fields) (s : State) :
    exec (.bne f) s = .next (s.branch (latch f s) (condNe (latch f s))) := rfl

/-- Settles O7: the two opcodes are rows of the opcode map, and each instruction is a `branch` whose condition is
(in)equality of the latched sources. -/
theorem equalityBranchesSetPcOnly : Obligations.EqualityBranchesSetPcOnly := by
  unfold Obligations.EqualityBranchesSetPcOnly
  refine ⟨encodedBy_of_instrOf fun _ => rfl, encodedBy_of_instrOf fun _ => rfl, ?_⟩
  intro f s
  exact ⟨setsPcOnly_of_exec (exec_beq f s) (condEq_iff (latch f s)),
    setsPcOnly_of_exec (exec_bne f s) (condNe_iff (latch f s))⟩

end Sys2Proof.Machine
end

section
/-! PROOFS. `sw` (spec/44_load_store.md R191): `MemWrite` of the sum, then the default advance of pc. -/

namespace Sys2Proof.Machine

theorem exec_sw (f : Fields) (s : State) :
    exec (.sw f) s = .next (s.memWrite (effectiveIndex (latch f s)) (s.reg f.rm + s.reg f.rd)).advance := rfl

/-- Whatever its index, `MemWrite` touches none of the hidden fields. -/
theorem State.memWrite_advance_keepsHidden (s : State) (a v : Word) : KeepsHidden s (s.memWrite a v).advance := by
  simp [KeepsHidden]

/-- Whatever its index, a `MemWrite` before the advance leaves pc where it was (R139). -/
theorem State.memWrite_advance_pcAdvanced (s : State) (a v : Word) : PcAdvanced s (s.memWrite a v).advance := by
  rw [PcAdvanced, State.advance_pc, State.memWrite_pc, pc_succ_toNat]

/-- `MemWrite` in range: that word is replaced, every other word reads as before, and no diagnostic leaves (R77). -/
theorem State.memWrite_inRange_effect (s : State) {a : Word} (h : a.toNat < 4096) (v : Word) :
    (∀ b, (s.memWrite a v).dmem.read b = if b = a.toNat then v else s.dmem.read b) ∧
      (s.memWrite a v).diags = s.diags := by
  rw [State.memWrite_valid s h v]
  exact ⟨fun b => Memory.read_write s.dmem a.toNat b v, State.setDmem_diags s _⟩

/-- `MemWrite` out of range: no word changes and MemAddr leaves (R77). -/
theorem State.memWrite_outOfRange_effect (s : State) {a : Word} (h : 4096 ≤ a.toNat) (v : Word) :
    KeepsDmem s (s.memWrite a v) ∧ (s.memWrite a v).diags = .memAddr a :: s.diags := by
  rw [State.memWrite_invalid s h v]
  exact ⟨fun b => by rw [State.report_dmem], State.report_diags s _⟩

/-- Settles O11: opcode 17 is a row of the opcode map, and `sw` is `memWrite` then `advance`; the advance touches neither
data memory nor the diagnostics, so the two cases of the index are those of `memWrite`. -/
theorem storeWordStoresRmPlusRd : Obligations.StoreWordStoresRmPlusRd := by
  unfold Obligations.StoreWordStoresRmPlusRd
  refine ⟨encodedBy_of_instrOf fun _ => rfl, fun f s => ⟨rfl, _, exec_sw f s, ?_⟩⟩
  generalize effectiveIndex (latch f s) = a
  generalize s.reg f.rm + s.reg f.rd = v
  exact ⟨s.memWrite_reg a v, s.memWrite_advance_pcAdvanced a v, ⟨s.memWrite_isr a v, s.memWrite_halted a v⟩,
    s.memWrite_ioAt a v, s.memWrite_advance_keepsHidden a v, fun h => s.memWrite_inRange_effect h v,
    fun h => s.memWrite_outOfRange_effect h v⟩

end Sys2Proof.Machine
end

section
/-! PROOFS. `out` (spec/45_system_io.md R202): `IoWrite` of x[rm] at the sum, then the default advance of pc. -/

namespace Sys2Proof.Machine

theorem exec_out (f : Fields) (s : State) :
    exec (.out f) s = .next (s.ioWrite (s.reg f.rs + s.reg f.rt) (s.reg f.rm)).advance := rfl

/-- Whatever its index, `IoWrite` touches none of the hidden fields. -/
theorem State.ioWrite_advance_keepsHidden (s : State) (i v : Word) : KeepsHidden s (s.ioWrite i v).advance := by
  simp [KeepsHidden]

/-- Whatever its index, an `IoWrite` before the advance leaves pc where it was (R139). -/
theorem State.ioWrite_advance_pcAdvanced (s : State) (i v : Word) : PcAdvanced s (s.ioWrite i v).advance := by
  rw [PcAdvanced, State.advance_pc, State.ioWrite_pc, pc_succ_toNat]

/-- `IoWrite` to a slot: the value reduced to the slot's width, a slot of width 0 and every other slot kept, and no
diagnostic (R81, R49). -/
theorem State.ioWrite_slot_effect (s : State) {i : Word} {r : IoReg} (h : i.toNat = r.index.val) (v : Word) :
    ((s.ioWrite i v).ioAt r).toNat = (if r.width = 0 then (s.ioAt r).toNat else v.toNat % 2 ^ r.width) ∧
      (∀ q : IoReg, q ≠ r → (s.ioWrite i v).ioAt q = s.ioAt q) ∧ (s.ioWrite i v).diags = s.diags := by
  rw [State.ioWrite_slot s h v]
  by_cases hwidth : r.width = 0
  · simp [hwidth]
  · simp only [if_neg hwidth, State.ioAt_ioPut, if_true, State.ioPut_diags, and_true]
    exact ⟨and_maskOf_toNat v r.width_le, fun q hq => if_neg hq⟩

/-- `IoWrite` outside the bank: no slot changes and IoIndex leaves (R81). -/
theorem State.ioWrite_invalid_effect (s : State) {i : Word} (h : 23 ≤ i.toNat) (v : Word) :
    KeepsIo s (s.ioWrite i v) ∧ (s.ioWrite i v).diags = .ioIndex i :: s.diags := by
  rw [State.ioWrite_invalid s h v]
  exact ⟨State.report_ioAt s _, State.report_diags s _⟩

/-- Settles O15: opcode 20 is a row of the opcode map, and `out` is `ioWrite` then `advance`; the advance touches neither
the bank nor the diagnostics, so the two cases of the index are those of `ioWrite`. -/
theorem outWritesMaskedSlot : Obligations.OutWritesMaskedSlot := by
  unfold Obligations.OutWritesMaskedSlot
  refine ⟨encodedBy_of_instrOf fun _ => rfl, fun f s => ⟨_, exec_out f s, ?_⟩⟩
  generalize s.reg f.rs + s.reg f.rt = i
  generalize s.reg f.rm = v
  exact ⟨s.ioWrite_reg i v, s.ioWrite_advance_pcAdvanced i v, ⟨s.ioWrite_isr i v, s.ioWrite_halted i v⟩,
    fun a => by rw [State.advance_dmem, State.ioWrite_dmem], s.ioWrite_advance_keepsHidden i v,
    fun r h => s.ioWrite_slot_effect h v, fun h => s.ioWrite_invalid_effect h v⟩

end Sys2Proof.Machine
end

section
/-! PROOFS. The cycle of an unsupported opcode (spec/45_system_io.md R204). -/

namespace Sys2Proof.Machine

/-- Words with an opcode field of 22 or more have no row in the table (R105). -/
theorem decode_of_topByte_ge {w : Slot} (h : 22 ≤ topByte w) : decode w = .unsupported (BitVec.ofNat 8 (topByte w)) := by
  have hop : (opcodeOf w).toNat = topByte w := opcodeOf_toNat w
  rw [← hop, BitVec.ofNat_toNat, BitVec.setWidth_eq]
  exact decode_of_none (instrOf_none (hop ▸ h) _)

/-- A running step on an unsupported opcode: the report and the advance, on the state steps 1 to 9 left. -/
theorem step_of_unsupported {s : State} {op : BitVec 8} (hs : s.halted = false)
    (h : decode (fetchedWord s) = .unsupported op) :
    step s = .next ((executeState s).report (.opcode op)).advance := by
  rw [step_running hs, executeWord, h]
  rfl

/-- Settles O17: the step is `step_of_unsupported`; its report and advance touch nothing else, so the rest is what the
decoder's immediate load and the trace record leave of the state before the fetch. -/
theorem unsupportedOpcodeIsReportedNoOp : Obligations.UnsupportedOpcodeIsReportedNoOp := by
  unfold Obligations.UnsupportedOpcodeIsReportedNoOp
  intro s hs hop
  refine ⟨_, step_of_unsupported hs (decode_of_topByte_ge hop), ?regs, ?pc, ?flags, ?io, ?dmem, ?hidden, ?trace, ?diags⟩
  case regs => intro r; simp [executeState_reg, beforeFetch_eq]
  case pc => rw [State.advance_pc, pc_succ_toNat, State.report_pc, executeState, decodePhase_pc]
  case flags => simp [KeepsFlags, executeState]
  case io => intro r; simp [executeState]
  case dmem => intro a; simp [executeState]
  case hidden => simp [KeepsHidden]
  case trace => simp [executeState_trace]
  case diags => simp [executeState]

end Sys2Proof.Machine
end

section
/-! PROOFS. The pending condition (spec/60_exceptions.md R250) over one-bit slots, and that steps 1 to 4 of a cycle keep a
line pending (R226): they leave every slot inside its width, every enable as it is, and every set status bit set. -/

namespace Sys2Proof.Machine

/-! ### The pending condition on one-bit words -/

theorem eq_zero_or_one_of_lt_two {a : Word} (h : a.toNat < 2) : a = 0 ∨ a = 1 := by
  bv_omega

theorem oneBit_and {a b : Word} (ha : a.toNat < 2) (hb : b.toNat < 2) :
    (a &&& b).toNat < 2 ∧ (a &&& b = 1 ↔ a = 1 ∧ b = 1) := by
  obtain rfl | rfl := eq_zero_or_one_of_lt_two ha <;> obtain rfl | rfl := eq_zero_or_one_of_lt_two hb <;> decide

theorem oneBit_or {a b : Word} (ha : a.toNat < 2) (hb : b.toNat < 2) :
    (a ||| b).toNat < 2 ∧ (a ||| b = 1 ↔ a = 1 ∨ b = 1) := by
  obtain rfl | rfl := eq_zero_or_one_of_lt_two ha <;> obtain rfl | rfl := eq_zero_or_one_of_lt_two hb <;> decide

/-- Every slot is inside its width: the bank's part of the invariant (`State.Inv.ioMasked`). -/
def State.IoMasked (s : State) : Prop := ∀ r : IoReg, (s.ioAt r).toNat < 2 ^ r.width

/-- With one-bit enables and statuses the dispatcher's word is 1 exactly when some line is enabled and pending. -/
theorem State.IoMasked.irqPending_iff {s : State} (h : s.IoMasked) : s.irqPending = true ↔ SomeLinePending s := by
  obtain ⟨lt0, eq0⟩ := oneBit_and (h .irq0enable) (h .irq0status)
  obtain ⟨lt1, eq1⟩ := oneBit_and (h .irq1enable) (h .irq1status)
  obtain ⟨lt2, eq2⟩ := oneBit_and (h .irq2enable) (h .irq2status)
  obtain ⟨lt01, eq01⟩ := oneBit_or lt0 lt1
  rw [State.irqPending, beq_iff_eq, (oneBit_or lt01 lt2).2, eq01, eq0, eq1, eq2, SomeLinePending, or_assoc]

/-! ### Steps 1 to 4 keep every slot inside its width -/

section
variable {s : State} (h : s.IoMasked)
include h

theorem tickClock_ioMasked : (tickClock s).IoMasked := by
  intro q
  rw [tickClock_ioAt]
  split
  case isTrue hq => subst hq; exact BitVec.isLt _
  case isFalse => exact h q

theorem tickTimer_ioMasked : (tickTimer s).IoMasked := by
  intro q
  rw [tickTimer_ioAt]
  split_ifs with henabled hmax hcurrent hstatus hcurrent
  · exact Nat.two_pow_pos _
  · subst hstatus; decide
  · exact h q
  · subst hcurrent; exact BitVec.isLt _
  · exact h q
  · exact h q

theorem sampleExternal_ioMasked : (sampleExternal s).IoMasked := by
  intro q
  rw [sampleExternal_ioAt]
  split
  case isTrue hq => obtain ⟨-, rfl⟩ := hq; decide
  case isFalse => exact h q

theorem tickDisk_ioMasked : (tickDisk s).IoMasked := by
  intro q
  rw [tickDisk_eq]
  split
  · rw [tickDiskBusy_ioAt]
    split_ifs with hdone hirq hcleared
    · subst hirq; decide
    · exact Nat.two_pow_pos _
    · exact h q
    · exact h q
  · rw [tickDiskReady_ioAt]
    split
    case isTrue hq => obtain ⟨-, -, rfl⟩ := hq; decide
    case isFalse => exact h q

theorem beforeDispatch_ioMasked : (beforeDispatch s).IoMasked :=
  tickDisk_ioMasked (sampleExternal_ioMasked (tickTimer_ioMasked (tickClock_ioMasked h)))

end

/-! ### Steps 1 to 4 keep a line pending -/

section
variable {s : State} {r : IoReg} (h : s.ioAt r = 1)
include h

theorem sampleExternal_status : (sampleExternal s).ioAt r = 1 := by
  rw [sampleExternal_ioAt, h, ite_self]

variable (hr : isStatusSlot r)
include hr

theorem tickClock_status : (tickClock s).ioAt r = 1 := by
  have hclks : r ≠ .clks := by obtain rfl | rfl | rfl := hr <;> decide
  rw [tickClock_ioAt_of_ne s hclks, h]

theorem tickTimer_status : (tickTimer s).ioAt r = 1 := by
  obtain rfl | rfl | rfl := hr <;> simp [tickTimer_ioAt, h]

theorem tickDisk_status : (tickDisk s).ioAt r = 1 := by
  rw [tickDisk_eq]
  obtain rfl | rfl | rfl := hr <;> split <;> simp [tickDiskBusy_ioAt, tickDiskReady_ioAt, h]

/-- No device before the dispatcher clears a status bit (R226). -/
theorem beforeDispatch_status : (beforeDispatch s).ioAt r = 1 :=
  tickDisk_status (sampleExternal_status (tickTimer_status (tickClock_status h hr) hr)) hr

end

/-- No device before the dispatcher writes an enable slot. -/
theorem beforeDispatch_enable (s : State) {r : IoReg} (hr : r = .irq0enable ∨ r = .irq1enable ∨ r = .irq2enable) :
    (beforeDispatch s).ioAt r = s.ioAt r := by
  obtain rfl | rfl | rfl := hr <;> rw [beforeDispatch, tickDisk_ioAt_of_ne _ (by decide) (by decide) (by decide)] <;>
    simp [sampleExternal_ioAt, tickTimer_ioAt, tickClock_ioAt]

/-- A line pending when the cycle begins is pending when the dispatcher looks. -/
theorem beforeDispatch_someLinePending {s : State} (h : SomeLinePending s) : SomeLinePending (beforeDispatch s) := by
  obtain ⟨hen, hst⟩ | ⟨hen, hst⟩ | ⟨hen, hst⟩ := h
  · exact .inl ⟨(beforeDispatch_enable s (by simp)).trans hen, beforeDispatch_status hst (.inl rfl)⟩
  · exact .inr (.inl ⟨(beforeDispatch_enable s (by simp)).trans hen, beforeDispatch_status hst (.inr (.inl rfl))⟩)
  · exact .inr (.inr ⟨(beforeDispatch_enable s (by simp)).trans hen, beforeDispatch_status hst (.inr (.inr rfl))⟩)

/-! ### The interrupt is taken in the next cycle -/

@[simp] theorem State.takeInterrupt_isr (s : State) : s.takeInterrupt.isr = true := rfl

@[simp] theorem State.takeInterrupt_irqreturn (s : State) : s.takeInterrupt.ioAt .irqreturn = s.pc.setWidth 32 := by
  simp [State.takeInterrupt]

/-- A line pending outside a handler when the cycle begins is taken by the cycle's dispatcher (R250). -/
theorem dispatchInterrupt_beforeDispatch_of_pending {s : State} (hm : s.IoMasked) (hisr : s.isr = false)
    (hp : SomeLinePending s) : dispatchInterrupt (beforeDispatch s) = (beforeDispatch s).takeInterrupt := by
  have hpending : (beforeDispatch s).irqPending = true :=
    (beforeDispatch_ioMasked hm).irqPending_iff.mpr (beforeDispatch_someLinePending hp)
  rw [dispatchInterrupt, if_pos (by simp [hpending, hisr])]

/-- After the dispatcher nothing before the execute stage touches the ISR flag. -/
theorem executeState_isr (s : State) : (executeState s).isr = (dispatchInterrupt (beforeDispatch s)).isr := by
  simp [executeState, beforeFetch_eq, devicePhase_eq]

/-- After the dispatcher nothing before the execute stage touches irqreturn. -/
theorem executeState_irqreturn (s : State) :
    (executeState s).ioAt .irqreturn = (dispatchInterrupt (beforeDispatch s)).ioAt .irqreturn := by
  simp [executeState_ioAt, devicePhase_eq, serviceMonitor_ioAt]

/-- A line pending outside a handler: the next cycle executes inside it, with irqreturn holding the pc of before. -/
theorem executeState_of_pending {s : State} (hm : s.IoMasked) (hisr : s.isr = false) (hp : SomeLinePending s) :
    (executeState s).isr = true ∧ ((executeState s).ioAt .irqreturn).toNat = s.pc.toNat := by
  rw [executeState_isr, executeState_irqreturn, dispatchInterrupt_beforeDispatch_of_pending hm hisr hp,
    State.takeInterrupt_irqreturn, beforeDispatch_pc]
  exact ⟨rfl, BitVec.toNat_setWidth_of_le (by decide)⟩

end Sys2Proof.Machine
end

section
/-! PROOFS. `reti` (spec/45_system_io.md R200). -/

namespace Sys2Proof.Machine

theorem exec_reti (f : Fields) (s : State) : exec (.reti f) s = .next s.returnFromInterrupt := rfl

/-- Returning from an interrupt puts pc at the low 12 bits of irqreturn (R200). -/
theorem State.returnFromInterrupt_pc_toNat (s : State) :
    s.returnFromInterrupt.pc.toNat = (s.ioAt .irqreturn).toNat % 4096 := low12_toNat _

@[simp] theorem State.returnFromInterrupt_isr (s : State) : s.returnFromInterrupt.isr = false := rfl

/-- Returning from an interrupt touches none of the hidden fields. -/
theorem State.returnFromInterrupt_keepsHidden (s : State) : KeepsHidden s s.returnFromInterrupt := by simp [KeepsHidden]

/-- Settles O13: opcode 18 is a row of the opcode map and `reti` is `returnFromInterrupt`, which keeps every slot; so a line
pending before it is pending after it, outside a handler, and `executeState_of_pending` says what the next cycle does. -/
theorem retiRestoresPcAndClearsIsr : Obligations.RetiRestoresPcAndClearsIsr := by
  unfold Obligations.RetiRestoresPcAndClearsIsr
  refine ⟨encodedBy_of_instrOf fun _ => rfl, fun f s => ⟨_, exec_reti f s, s.returnFromInterrupt_pc_toNat,
    s.returnFromInterrupt_isr, s.returnFromInterrupt_halted, s.returnFromInterrupt_reg, s.returnFromInterrupt_ioAt,
    fun a => by rw [State.returnFromInterrupt_dmem], s.returnFromInterrupt_keepsHidden, s.returnFromInterrupt_diags, ?_⟩⟩
  intro hinv hpending
  have hmasked : s.returnFromInterrupt.IoMasked := hinv.ioMasked
  have hstill : SomeLinePending s.returnFromInterrupt := hpending
  rw [← s.returnFromInterrupt_pc_toNat]
  exact executeState_of_pending hmasked s.returnFromInterrupt_isr hstill

end Sys2Proof.Machine
end

section
/-! PROOFS. The timer (spec/60_exceptions.md R231): one tick and its frame, and the count over a whole period. -/

namespace Sys2Proof.Machine

/-! ### One tick -/

/-- A disabled timer does nothing. -/
theorem tickTimer_disabled {s : State} (h : s.ioAt .timerenable ≠ 1) : tickTimer s = s := if_neg h

/-- The tick in which the count stands at its maximum raises line 0 and clears the count. -/
theorem tickTimer_atMax {s : State} (h : s.ioAt .timerenable = 1) (hmax : s.ioAt .timercurrent = s.ioAt .timermax) :
    tickTimer s = (s.ioPut .irq0status 1).ioPut .timercurrent 0 := by
  rw [tickTimer, if_pos h, if_pos hmax]

/-- Every other tick of an enabled timer counts up. -/
theorem tickTimer_belowMax {s : State} (h : s.ioAt .timerenable = 1) (hmax : s.ioAt .timercurrent ≠ s.ioAt .timermax) :
    tickTimer s = s.ioPut .timercurrent (s.ioAt .timercurrent + 1) := by
  rw [tickTimer, if_pos h, if_neg hmax]

/-- The tick writes no slot but irq0status and timercurrent. -/
theorem tickTimer_ioAt_of_ne (s : State) {r : IoReg} (hstatus : r ≠ .irq0status) (hcurrent : r ≠ .timercurrent) :
    (tickTimer s).ioAt r = s.ioAt r := by
  simp [tickTimer_ioAt, hstatus, hcurrent]

theorem tickTimer_keepsProgram (s : State) : KeepsProgram s (tickTimer s) := by
  simp [KeepsProgram, KeepsRegs, KeepsFlags]

/-- The tick touches none of the hidden fields. -/
theorem tickTimer_keepsHidden (s : State) : KeepsHidden s (tickTimer s) := by simp [KeepsHidden]

/-- What an enabled tick does to irq0status. -/
theorem tickTimer_irq0status {s : State} (h : s.ioAt .timerenable = 1) : (tickTimer s).ioAt .irq0status =
    if s.ioAt .timercurrent = s.ioAt .timermax then 1 else s.ioAt .irq0status := by
  simp [tickTimer_ioAt, h]

/-- What an enabled tick does to the count. -/
theorem tickTimer_timercurrent_toNat {s : State} (h : s.ioAt .timerenable = 1) :
    ((tickTimer s).ioAt .timercurrent).toNat =
      if s.ioAt .timercurrent = s.ioAt .timermax then 0 else ((s.ioAt .timercurrent).toNat + 1) % 2 ^ 32 := by
  rw [tickTimer_ioAt, if_pos h]
  split <;> simp [BitVec.toNat_add]

/-! ### The period -/

/-- Up to the maximum, n ticks from a count of 0 leave the bank as it was with the count at n. -/
theorem iterate_tickTimer_ioAt {s : State} (h : s.ioAt .timerenable = 1) (h0 : s.ioAt .timercurrent = 0) {n : Nat}
    (hn : n ≤ (s.ioAt .timermax).toNat) (q : IoReg) :
    (tickTimer^[n] s).ioAt q = if q = .timercurrent then BitVec.ofNat 32 n else s.ioAt q := by
  induction n generalizing q with
  | zero => split <;> simp_all
  | succ n ih =>
    have ih := ih (by omega)
    have hbelow : BitVec.ofNat 32 n ≠ s.ioAt .timermax := by bv_omega
    have hsucc : BitVec.ofNat 32 n + 1 = BitVec.ofNat 32 (n + 1) := (BitVec.ofNat_add n 1).symm
    rw [Function.iterate_succ_apply', tickTimer_belowMax (by simp [ih, h]) (by simpa [ih] using hbelow), State.ioAt_ioPut,
      ih, ih, if_pos rfl, hsucc]
    split <;> rfl

/-- Settles O32: one tick by the lemmas above; the period by `iterate_tickTimer_ioAt`, after which the count stands at its
maximum and the next tick is `tickTimer_atMax`. -/
theorem timerTicksAndPeriod : Obligations.TimerTicksAndPeriod := by
  unfold Obligations.TimerTicksAndPeriod
  refine ⟨fun s h => tickTimer_disabled h, fun s h => ?_, fun s n h h0 hn => ?_, fun s h h0 => ?_⟩
  · exact ⟨tickTimer_irq0status h, tickTimer_timercurrent_toNat h, fun r => tickTimer_ioAt_of_ne s,
      tickTimer_keepsProgram s, fun a => by rw [tickTimer_dmem], tickTimer_keepsHidden s, tickTimer_diags s⟩
  · have hcount := iterate_tickTimer_ioAt h h0 hn
    have hlt : n < 4294967296 := by omega
    simp [hcount, hlt]
  · have hcount := iterate_tickTimer_ioAt h h0 le_rfl
    rw [Function.iterate_succ_apply', tickTimer_atMax (by simp [hcount, h]) (by simp [hcount])]
    simp

end Sys2Proof.Machine
end

section
/-! PROOFS. The disk controller's tick (spec/60_exceptions.md R240 to R242, R245): BUSY it counts down, READY it dispatches
on the command. The effect of a transfer itself stands further below. -/

namespace Sys2Proof.Machine

/-- Whatever its branch, the disk's tick leaves alone what steps 1 to 4 leave alone. -/
theorem tickDisk_keepsProgram (s : State) : KeepsProgram s (tickDisk s) := by
  simp [KeepsProgram, KeepsRegs, KeepsFlags]

/-! ### BUSY -/

theorem tickDisk_of_busy {s : State} (h : 0 < s.diskRemaining) : tickDisk s = tickDiskBusy s := if_pos h

/-- A BUSY tick over the bank: in the last one the command and status slots are cleared and line 1 is raised. -/
theorem tickDisk_ioAt_of_busy {s : State} (h : 0 < s.diskRemaining) (r : IoReg) :
    (tickDisk s).ioAt r =
      if s.diskRemaining = 1 then
        (if r = .diskcmd ∨ r = .diskstatus then 0 else if r = .irq1status then 1 else s.ioAt r)
      else s.ioAt r := by
  have hlast : s.diskRemaining - 1 = 0 ↔ s.diskRemaining = 1 := by omega
  rw [tickDisk_of_busy h, tickDiskBusy_ioAt]
  refine if_congr hlast ?_ rfl
  cases r <;> rfl

/-- The counter of a BUSY tick does not look at the bank. -/
theorem tickDisk_diskRemaining_of_busy {s : State} (h : 0 < s.diskRemaining) :
    (tickDisk s).diskRemaining = s.diskRemaining - 1 := by
  rw [tickDisk_of_busy h, tickDiskBusy_diskRemaining]

/-- Settles O34: `tickDisk` is `tickDiskBusy`, whose counter depends on the counter alone. -/
theorem busyDiskCountsDownAndCompletes : Obligations.BusyDiskCountsDownAndCompletes := by
  unfold Obligations.BusyDiskCountsDownAndCompletes
  intro s h
  refine ⟨tickDisk_diskRemaining_of_busy h, tickDisk_ioAt_of_busy h, ?dmem, ?disk, ?diags, tickDisk_keepsProgram s,
    fun a => by rw [tickDisk_mon], fun v => ?_⟩
  case dmem => intro a; rw [tickDisk_of_busy h, tickDiskBusy_dmem]
  case disk => intro a; rw [tickDisk_of_busy h, tickDiskBusy_disk]
  case diags => rw [tickDisk_of_busy h, tickDiskBusy_diags]
  · have hput : 0 < (s.ioPut .diskcmd v).diskRemaining := h
    rw [tickDisk_diskRemaining_of_busy hput, tickDisk_diskRemaining_of_busy h, State.ioPut_diskRemaining]

/-! ### READY -/

section
variable {s : State}

theorem acceptDisk_inRange (h : (s.ioAt .disksector).toNat < 128) (transfer : Nat → Word → State → State) :
    acceptDisk s transfer =
      ((transfer (s.ioAt .disksector).toNat (s.ioAt .diskbuffer) s).ioPut .diskstatus 1).setDiskRemaining 1024 := if_pos h

theorem acceptDisk_outOfRange (h : 128 ≤ (s.ioAt .disksector).toNat) (transfer : Nat → Word → State → State) :
    acceptDisk s transfer = s.report (.diskSector (s.ioAt .disksector)) := if_neg (Nat.not_lt.mpr h)

variable (h : s.diskRemaining = 0)
include h

theorem tickDisk_of_ready : tickDisk s = tickDiskReady s := if_neg (by omega)

theorem tickDisk_noCommand (hcmd : s.ioAt .diskcmd = 0) : tickDisk s = s := by
  rw [tickDisk_of_ready h, tickDiskReady, if_pos hcmd]

theorem tickDisk_read (hcmd : s.ioAt .diskcmd = 1) : tickDisk s = acceptDisk s readSector := by
  simp [tickDisk_of_ready h, tickDiskReady, hcmd]

theorem tickDisk_write (hcmd : s.ioAt .diskcmd = 2) : tickDisk s = acceptDisk s writeSector := by
  simp [tickDisk_of_ready h, tickDiskReady, hcmd]

theorem tickDisk_invalidCommand (h0 : s.ioAt .diskcmd ≠ 0) (h1 : s.ioAt .diskcmd ≠ 1) (h2 : s.ioAt .diskcmd ≠ 2) :
    tickDisk s = s.report (.diskCmd (s.ioAt .diskcmd)) := by
  rw [tickDisk_of_ready h, tickDiskReady, if_neg h0, if_neg h1, if_neg h2]

/-- A transfer command with a sector out of range: a report only (R245). -/
theorem tickDisk_invalidSector (hcmd : s.ioAt .diskcmd = 1 ∨ s.ioAt .diskcmd = 2)
    (hsec : 128 ≤ (s.ioAt .disksector).toNat) : tickDisk s = s.report (.diskSector (s.ioAt .disksector)) := by
  obtain hcmd | hcmd := hcmd
  · rw [tickDisk_read h hcmd, acceptDisk_outOfRange hsec]
  · rw [tickDisk_write h hcmd, acceptDisk_outOfRange hsec]

/-- An accepted transfer makes the controller BUSY for DISK_LATENCY cycles. -/
theorem tickDisk_diskRemaining_of_accepted (hcmd : s.ioAt .diskcmd = 1 ∨ s.ioAt .diskcmd = 2)
    (hsec : (s.ioAt .disksector).toNat < 128) : (tickDisk s).diskRemaining = 1024 := by
  obtain hcmd | hcmd := hcmd
  · rw [tickDisk_read h hcmd, acceptDisk_inRange hsec, State.setDiskRemaining_diskRemaining]
  · rw [tickDisk_write h hcmd, acceptDisk_inRange hsec, State.setDiskRemaining_diskRemaining]

/-- An accepted transfer sets diskstatus and no other slot. -/
theorem tickDisk_ioAt_of_accepted (hcmd : s.ioAt .diskcmd = 1 ∨ s.ioAt .diskcmd = 2)
    (hsec : (s.ioAt .disksector).toNat < 128) (r : IoReg) :
    (tickDisk s).ioAt r = if r = .diskstatus then 1 else s.ioAt r := by
  rw [tickDisk_of_ready h, tickDiskReady_ioAt]
  exact if_congr ⟨fun hr => hr.2.2, fun hr => ⟨hcmd, hsec, hr⟩⟩ rfl rfl

end

/-- Settles O35: one lemma for each branch of the dispatch; an accepted command leaves what its transfer left, since the
status slot and the counter are all it sets besides. -/
theorem readyDiskDispatchesOnCommand : Obligations.ReadyDiskDispatchesOnCommand := by
  unfold Obligations.ReadyDiskDispatchesOnCommand
  intro s h
  refine ⟨tickDisk_noCommand h, fun hcmd hsec => ?_, tickDisk_invalidSector h, tickDisk_invalidCommand h⟩
  refine ⟨tickDisk_diskRemaining_of_accepted h hcmd hsec, tickDisk_ioAt_of_accepted h hcmd hsec, tickDisk_keepsProgram s,
    fun a => by rw [tickDisk_mon], fun hread => ?_, fun hwrite => ?_⟩
  · rw [tickDisk_read h hread, acceptDisk_inRange hsec]
    simp
  · rw [tickDisk_write h hwrite, acceptDisk_inRange hsec]
    simp

end Sys2Proof.Machine
end

section
/-! PROOFS. The monitor service (spec/60_exceptions.md R260): the command is consumed, the pixel is written or reported. -/

namespace Sys2Proof.Machine

theorem serviceMonitor_of_noCommand {s : State} (h : s.ioAt .monitorcmd ≠ 1) : serviceMonitor s = s := if_neg h

theorem serviceMonitor_keepsProgram (s : State) : KeepsProgram s (serviceMonitor s) := by
  simp [KeepsProgram, KeepsRegs, KeepsFlags]

/-- A command inside the buffer writes the pixel and is consumed. -/
theorem serviceMonitor_inside {s : State} (h : s.ioAt .monitorcmd = 1) (haddr : (s.ioAt .monitoraddr).toNat / 256 < 256) :
    serviceMonitor s = (s.putPixel ((s.ioAt .monitoraddr).toNat / 256) ((s.ioAt .monitoraddr).toNat % 256)
      ((s.ioAt .monitordata).setWidth 8)).ioPut .monitorcmd 0 := by
  rw [serviceMonitor, if_pos h, writePixel_inside s haddr]

/-- A command outside the buffer is reported and consumed. -/
theorem serviceMonitor_outside {s : State} (h : s.ioAt .monitorcmd = 1)
    (haddr : 256 ≤ (s.ioAt .monitoraddr).toNat / 256) :
    serviceMonitor s = (s.report (.monAddr (s.ioAt .monitoraddr))).ioPut .monitorcmd 0 := by
  rw [serviceMonitor, if_pos h, writePixel_outside s haddr]

/-- A row and a column name one pixel: with the column inside its row, the flat index determines both (R57). -/
theorem pixelIndex_inj {r c r' c' : Nat} (hc : c < 256) (hc' : c' < 256) :
    pixelIndex r c = pixelIndex r' c' ↔ r = r' ∧ c = c' := by
  simp only [pixelIndex, config_monWidth]
  omega

/-- What a pixel write does to every pixel. -/
theorem State.pixel_putPixel (s : State) {r c row col : Nat} (hc : c < 256) (hcol : col < 256) (v : Byte) :
    (s.putPixel r c v).pixel row col = if row = r ∧ col = c then v else s.pixel row col := by
  rw [State.putPixel, State.pixel, State.setMon_mon, Memory.read_write]
  exact if_congr (pixelIndex_inj hcol hc) rfl rfl

/-- The buffer after step 6 as a function of the buffer and the three monitor slots. -/
theorem serviceMonitor_mon (s : State) :
    (serviceMonitor s).mon =
      if s.ioAt .monitorcmd = 1 ∧ (s.ioAt .monitoraddr).toNat / 256 < 256 then
        s.mon.write (s.ioAt .monitoraddr).toNat ((s.ioAt .monitordata).setWidth 8)
      else s.mon := by
  by_cases hcmd : s.ioAt .monitorcmd = 1
  · by_cases haddr : (s.ioAt .monitoraddr).toNat / 256 < 256
    · have hindex : pixelIndex ((s.ioAt .monitoraddr).toNat / 256) ((s.ioAt .monitoraddr).toNat % 256) =
          (s.ioAt .monitoraddr).toNat := Nat.div_add_mod' _ _
      rw [if_pos ⟨hcmd, haddr⟩, serviceMonitor_inside hcmd haddr, State.ioPut_mon, State.putPixel, hindex, State.setMon_mon]
    · rw [if_neg (haddr ·.2), serviceMonitor_outside hcmd (Nat.not_lt.mp haddr)]
      rfl
  · rw [if_neg (hcmd ·.1), serviceMonitor_of_noCommand hcmd]

/-- Steps 1 to 5 write no monitor slot. -/
theorem dispatchInterrupt_beforeDispatch_monitor (s : State) {r : IoReg}
    (hr : r = .monitoraddr ∨ r = .monitordata ∨ r = .monitorcmd) :
    (dispatchInterrupt (beforeDispatch s)).ioAt r = s.ioAt r := by
  have hirq : r ≠ .irqreturn := by obtain rfl | rfl | rfl := hr <;> decide
  rw [dispatchInterrupt_ioAt, if_neg (hirq ·.2), beforeDispatch]
  obtain rfl | rfl | rfl := hr <;> rw [tickDisk_ioAt_of_ne _ (by decide) (by decide) (by decide)] <;>
    simp [sampleExternal_ioAt, tickTimer_ioAt, tickClock_ioAt]

/-- The cycle's pixels are those step 6 makes of the state the cycle began with: steps 1 to 5 touch neither the buffer nor
the monitor slots, steps 7 to 9 not the buffer. -/
theorem executeState_mon (s : State) : (executeState s).mon = (serviceMonitor s).mon := by
  have hmon : (dispatchInterrupt (beforeDispatch s)).mon = s.mon := by simp [beforeDispatch]
  have hslot := fun r => dispatchInterrupt_beforeDispatch_monitor s (r := r)
  rw [executeState, decodePhase_mon, beforeFetch_eq, State.setCycle_mon, devicePhase_eq, serviceMonitor_mon,
    serviceMonitor_mon, hmon, hslot _ (by simp), hslot _ (by simp), hslot _ (by simp)]

/-- Settles O44: `serviceMonitor_inside` and `serviceMonitor_outside` are the two cases of a command. -/
theorem monitorServiceWritesPixelAndClearsCommand : Obligations.MonitorServiceWritesPixelAndClearsCommand := by
  unfold Obligations.MonitorServiceWritesPixelAndClearsCommand
  refine ⟨fun s h => serviceMonitor_of_noCommand h, fun s h => ?_, fun s a => by rw [executeState_mon]⟩
  refine ⟨fun r => by simp [serviceMonitor_ioAt, h], serviceMonitor_keepsProgram s, fun a => by rw [serviceMonitor_dmem],
    fun a => by rw [serviceMonitor_disk], serviceMonitor_diskRemaining s, fun haddr => ?inside, fun haddr => ?outside⟩
  case inside =>
    rw [serviceMonitor_inside h haddr]
    refine ⟨rfl, fun row col _ hcol => ?_⟩
    have hpixel := s.pixel_putPixel (r := (s.ioAt .monitoraddr).toNat / 256) (row := row)
      (Nat.mod_lt (s.ioAt .monitoraddr).toNat (by decide)) hcol ((s.ioAt .monitordata).setWidth 8)
    exact (congrArg BitVec.toNat hpixel).trans (by split <;> simp)
  case outside =>
    rw [serviceMonitor_outside h haddr]
    exact ⟨rfl, fun a => rfl⟩

end Sys2Proof.Machine
end

section
/-! PROOFS. Bytes inside a word (spec/20_memory.md R79): setting one, and the word four of them make. -/

namespace Sys2Proof.Machine

/-- `w` with the eight bits from bit `k` on replaced by `v`: what `ReadSector` stores for one byte (R243). -/
def setByteAt (w : Word) (k : Nat) (v : Byte) : Word := (w &&& ~~~((0xFF : Word) <<< k)) ||| (v.setWidth 32 <<< k)

theorem getLsbD_byteMask (i : Nat) : (0xFF : Word).getLsbD i = decide (i < 8) := by
  have hmask : (0xFF : Word) = (BitVec.allOnes 8).setWidth 32 := by decide
  rw [hmask, BitVec.getLsbD_setWidth, BitVec.getLsbD_allOnes, Bool.and_eq_right_iff_imp, decide_eq_true_eq, decide_eq_true_eq]
  omega

theorem getLsbD_setByteAt (w : Word) (k : Nat) (v : Byte) {i : Nat} (hi : i < 32) :
    (setByteAt w k v).getLsbD i = if k ≤ i ∧ i < k + 8 then v.getLsbD (i - k) else w.getLsbD i := by
  simp only [setByteAt, BitVec.getLsbD_or, BitVec.getLsbD_and, BitVec.getLsbD_not, BitVec.getLsbD_shiftLeft,
    getLsbD_byteMask, BitVec.getLsbD_setWidth]
  split
  case isTrue h =>
    have hlow : ¬ i < k := by omega
    have hbyte : i - k < 8 := by omega
    have hword : i - k < 32 := by omega
    simp [hi, hlow, hbyte, hword]
  case isFalse h =>
    by_cases hlow : i < k
    · simp [hi, hlow]
    · have hbyte : ¬ i - k < 8 := by omega
      have hout : v.getLsbD (i - k) = false := BitVec.getLsbD_of_ge v _ (by omega)
      simp [hi, hbyte, hout]

/-- Setting all four bytes of a word loses its old content. -/
theorem setByteAt_four (w : Word) (b0 b1 b2 b3 : Byte) :
    setByteAt (setByteAt (setByteAt (setByteAt w 24 b0) 16 b1) 8 b2) 0 b3 = b0 ++ b1 ++ b2 ++ b3 := by
  apply BitVec.eq_of_getLsbD_eq
  intro i hi
  simp only [getLsbD_setByteAt _ _ _ hi, BitVec.getLsbD_append]
  obtain h | h | h | h : i < 8 ∨ 8 ≤ i ∧ i < 16 ∨ 16 ≤ i ∧ i < 24 ∨ 24 ≤ i := by omega
  all_goals simp (disch := omega) only [if_pos, if_neg, Nat.sub_zero, Nat.sub_sub]

/-- The value of four bytes, most significant first. -/
theorem toNat_append_four (b0 b1 b2 b3 : Byte) : (b0 ++ b1 ++ b2 ++ b3).toNat =
    b0.toNat * 2 ^ 24 + b1.toNat * 2 ^ 16 + b2.toNat * 2 ^ 8 + b3.toNat := by
  simp only [BitVec.toNat_append]
  rw [← Nat.shiftLeft_add_eq_or_of_lt b3.isLt, ← Nat.shiftLeft_add_eq_or_of_lt b2.isLt,
    ← Nat.shiftLeft_add_eq_or_of_lt b1.isLt]
  simp only [Nat.shiftLeft_eq]
  omega

end Sys2Proof.Machine
end

section
/-! PROOFS. The index and the reports of a disk transfer (spec/20_memory.md R92, spec/60_exceptions.md R243, R244). -/

namespace Sys2Proof.Machine

/-- The index of a transfer's byte does not wrap: it counts words from the buffer on (R92). -/
theorem transferIndex_toNat {buf : Word} (hbuf : buf.toNat < 4096) {b : Nat} (hb : b < 512) :
    (transferIndex buf b).toNat = buf.toNat + b / 4 := by
  rw [transferIndex, BitVec.toNat_add, BitVec.toNat_ofNat]
  omega

/-- Steps that report `g b` where `p b` holds, and nothing elsewhere, leave over a list those records, newest first. -/
theorem foldl_diags {β : Type} {f : State → β → State} {p : β → Bool} {g : β → List Diagnostic} (l : List β) (s : State)
    (h : ∀ s, ∀ b ∈ l, (f s b).diags = if p b then g b ++ s.diags else s.diags) :
    (l.foldl f s).diags = (l.reverse.filter p).flatMap g ++ s.diags := by
  induction l generalizing s with
  | nil => rfl
  | cons b rest ih =>
    rw [List.foldl_cons, ih (f s b) fun t c hc => h t c (List.mem_cons_of_mem b hc), h s b List.mem_cons_self]
    by_cases hp : p b <;> simp [hp]

/-- The reports of a whole transfer whose byte reports `n` times when its word is out of range. -/
theorem foldl_range_diags {f : State → Nat → State} {buf : Word} {n : Nat}
    (h : ∀ s b, b < 512 → (f s b).diags =
      if 4096 ≤ buf.toNat + b / 4 then List.replicate n (.memAddr (transferIndex buf b)) ++ s.diags else s.diags)
    (s : State) : ((List.range 512).foldl f s).diags = transferReports buf n ++ s.diags := by
  refine foldl_diags (p := fun b => 4096 ≤ buf.toNat + b / 4) _ s fun t b hb => ?_
  simp only [decide_eq_true_eq]
  exact h t b (List.mem_range.mp hb)

end Sys2Proof.Machine
end

section
/-! PROOFS. `ReadSector` (spec/60_exceptions.md R243): byte by byte, then word by word, then over the whole sector. -/

namespace Sys2Proof.Machine

section
variable {buf : Word} (hbuf : buf.toNat < 4096)
include hbuf

/-- One byte of `ReadSector` over the diagnostics: two reports when its word is out of range. -/
theorem readSectorByte_diags (sec : Nat) (s : State) {b : Nat} (hb : b < 512) :
    (readSectorByte sec buf s b).diags =
      if 4096 ≤ buf.toNat + b / 4 then List.replicate 2 (.memAddr (transferIndex buf b)) ++ s.diags else s.diags := by
  have hindex := transferIndex_toNat hbuf hb
  split
  case isTrue hout => rw [readSectorByte_invalid s (by rw [hindex]; exact hout)]; rfl
  case isFalse hin => rw [readSectorByte_valid s (by rw [hindex]; exact Nat.not_le.mp hin)]; rfl

/-- One byte of `ReadSector` over data memory: it replaces that byte of its word, if the word is in range. -/
theorem readSectorByte_dmem_read (sec : Nat) (s : State) {b : Nat} (hb : b < 512) (a : Nat) :
    (readSectorByte sec buf s b).dmem.read a =
      if a = buf.toNat + b / 4 ∧ a < 4096 then setByteAt (s.dmem.read a) (byteShift b) (s.diskByte sec b)
      else s.dmem.read a := by
  have hindex := transferIndex_toNat hbuf hb
  by_cases hin : buf.toNat + b / 4 < 4096
  · rw [readSectorByte_valid s (by rw [hindex]; exact hin), State.setDmem_dmem, Memory.read_write, hindex]
    by_cases ha : a = buf.toNat + b / 4
    · rw [if_pos ha, if_pos ⟨ha, ha ▸ hin⟩, ha, setByteAt]
    · rw [if_neg ha, if_neg (ha ·.1)]
  · rw [readSectorByte_invalid s (by rw [hindex]; exact Nat.not_lt.mp hin), if_neg (by omega)]
    rfl

end

theorem readSectorByte_diskByte (sec : Nat) (buf : Word) (s : State) (b sec' c : Nat) :
    (readSectorByte sec buf s b).diskByte sec' c = s.diskByte sec' c := by
  rw [State.diskByte, readSectorByte_disk, State.diskByte]

/-! ### The four bytes of a word -/

/-- Word `j` of sector `sec` as bits, its four bytes most significant first. -/
def sectorWordBits (s : State) (sec j : Nat) : Word :=
  s.diskByte sec (4 * j) ++ s.diskByte sec (4 * j + 1) ++ s.diskByte sec (4 * j + 2) ++ s.diskByte sec (4 * j + 3)

/-- The number those bits stand for is the statement's `sectorWord`. -/
theorem sectorWordBits_toNat (s : State) (sec j : Nat) : (sectorWordBits s sec j).toNat = sectorWord s sec j :=
  toNat_append_four ..

/-- The part of `ReadSector` that fills word `j` of the buffer. -/
def readSectorWord (sec : Nat) (buf : Word) (s : State) (j : Nat) : State :=
  (List.range 4).foldl (fun s k => readSectorByte sec buf s (4 * j + k)) s

/-- Bytes in ascending order are words in ascending order. -/
theorem foldl_readSectorByte_eq (sec : Nat) (buf : Word) (s : State) (n : Nat) :
    (List.range (4 * n)).foldl (readSectorByte sec buf) s = (List.range n).foldl (readSectorWord sec buf) s := by
  induction n with
  | zero => rfl
  | succ n ih =>
    rw [Nat.mul_succ, List.range_add, List.foldl_append, ih, List.foldl_map, List.range_succ (n := n), List.foldl_append]
    rfl

/-- `ReadSector` is its 128 words in ascending order. -/
theorem readSector_eq_foldl_words (sec : Nat) (buf : Word) (s : State) :
    readSector sec buf s = (List.range 128).foldl (readSectorWord sec buf) s := foldl_readSectorByte_eq sec buf s 128

theorem readSectorWord_disk (sec : Nat) (buf : Word) (s : State) (j : Nat) : (readSectorWord sec buf s j).disk = s.disk :=
  foldl_keeps State.disk _ (fun s k => readSectorByte_disk s sec buf (4 * j + k)) _ s

section
variable {buf : Word} (hbuf : buf.toNat < 4096)
include hbuf

/-- One word of `ReadSector` over data memory: the word becomes the sector's four bytes, if it is in range. -/
theorem readSectorWord_dmem_read (sec : Nat) (s : State) {j : Nat} (hj : j < 128) (a : Nat) :
    (readSectorWord sec buf s j).dmem.read a =
      if a = buf.toNat + j ∧ a < 4096 then sectorWordBits s sec j else s.dmem.read a := by
  have hbyte (s : State) {k : Nat} (hk : k < 4) : (readSectorByte sec buf s (4 * j + k)).dmem.read a =
      if a = buf.toNat + j ∧ a < 4096 then setByteAt (s.dmem.read a) (8 * (3 - k)) (s.diskByte sec (4 * j + k))
      else s.dmem.read a := by
    have hword : (4 * j + k) / 4 = j := by omega
    have hplace : (4 * j + k) % 4 = k := by omega
    rw [readSectorByte_dmem_read hbuf sec s (by omega), byteShift, hword, hplace]
  have hrange : List.range 4 = [0, 1, 2, 3] := rfl
  simp only [readSectorWord, hrange, List.foldl_cons, List.foldl_nil]
  rw [hbyte _ (by decide : 3 < 4), hbyte _ (by decide : 2 < 4), hbyte _ (by decide : 1 < 4), hbyte _ (by decide : 0 < 4)]
  split
  · simp only [readSectorByte_diskByte]
    exact setByteAt_four ..
  · rfl

/-! ### The whole sector -/

/-- The first `n` words of `ReadSector` over data memory. -/
theorem foldl_readSectorWord_dmem_read (sec : Nat) (s : State) {n : Nat} (hn : n ≤ 128) (a : Nat) :
    ((List.range n).foldl (readSectorWord sec buf) s).dmem.read a =
      if buf.toNat ≤ a ∧ a < buf.toNat + n ∧ a < 4096 then sectorWordBits s sec (a - buf.toNat) else s.dmem.read a := by
  induction n with
  | zero => rw [if_neg (by omega)]; rfl
  | succ n ih =>
    have hdisk : ((List.range n).foldl (readSectorWord sec buf) s).disk = s.disk :=
      foldl_keeps State.disk _ (readSectorWord_disk sec buf) _ s
    have hbits (j : Nat) :
        sectorWordBits ((List.range n).foldl (readSectorWord sec buf) s) sec j = sectorWordBits s sec j := by
      simp only [sectorWordBits, State.diskByte, hdisk]
    rw [List.range_succ, List.foldl_append, List.foldl_cons, List.foldl_nil, readSectorWord_dmem_read hbuf sec _ (by omega),
      hbits, ih (by omega)]
    by_cases hlast : a = buf.toNat + n
    · subst hlast
      simp
    · rw [if_neg (hlast ·.1)]
      exact if_congr (by omega) rfl rfl

/-- `ReadSector` over data memory: the words of the buffer that are in range become the sector's, every other word reads as
before. -/
theorem readSector_dmem_read (sec : Nat) (s : State) (a : Nat) :
    (readSector sec buf s).dmem.read a =
      if buf.toNat ≤ a ∧ a < buf.toNat + 128 ∧ a < 4096 then sectorWordBits s sec (a - buf.toNat) else s.dmem.read a := by
  rw [readSector_eq_foldl_words, foldl_readSectorWord_dmem_read hbuf sec s le_rfl]

theorem readSector_diags (sec : Nat) (s : State) : (readSector sec buf s).diags = transferReports buf 2 ++ s.diags :=
  foldl_range_diags (fun s _ hb => readSectorByte_diags hbuf sec s hb) s

end

theorem readSector_keepsHidden (sec : Nat) (buf : Word) (s : State) : KeepsHidden s (readSector sec buf s) := by
  simp [KeepsHidden]

/-- Settles O36: `readSector_dmem_read` is the two clauses about data memory, `readSector_diags` the reports; the rest no
byte of the transfer touches. -/
theorem readSectorNetEffect : Obligations.ReadSectorNetEffect := by
  unfold Obligations.ReadSectorNetEffect
  intro s sec buf _ hbuf
  refine ⟨fun j hj hin => ?_, fun a ha => ?_, readSector_keepsHidden sec buf s, readSector_pc s sec buf,
    readSector_reg s sec buf, ⟨readSector_isr s sec buf, readSector_halted s sec buf⟩, readSector_ioAt s sec buf,
    readSector_diags hbuf sec s⟩
  · rw [readSector_dmem_read hbuf, if_pos ⟨by omega, by omega, hin⟩, Nat.add_sub_cancel_left, sectorWordBits_toNat]
  · rw [readSector_dmem_read hbuf, if_neg (by omega)]

end Sys2Proof.Machine
end

section
/-! PROOFS. Instruction memory over one cycle (spec/70_reset_and_hazards.md R299): neither the devices nor the execute
stage write it. -/

namespace Sys2Proof.Machine

/-- A step keeps instruction memory as a whole: a halted one keeps the state, and a running one executes an instruction or
reports its opcode from the state the devices left. -/
theorem step_imem {s t : State} (h : step s = .next t) : t.imem = s.imem := by
  cases hs : s.halted with
  | true =>
    rw [step_halted hs] at h
    injection h with h
    rw [h]
  | false =>
    obtain ⟨i, -, hexec⟩ | ⟨op, -, rfl⟩ := step_cases hs h
    · obtain ⟨-, -, -, himem, -⟩ := exec_untouched hexec
      exact himem.trans (executeState_imem s)
    · rw [State.advance_imem, State.report_imem, executeState_imem]

/-- Settles O28: every slot reads as before because `step_imem` keeps the memory it is read from. -/
theorem instructionMemoryIsNeverWritten : Obligations.InstructionMemoryIsNeverWritten := by
  unfold Obligations.InstructionMemoryIsNeverWritten
  intro s t h a
  rw [step_imem h]

end Sys2Proof.Machine
end

section
/-! PROOFS. Decoding undoes encoding and encoding undoes decoding (spec/30_encoding.md R101, R104, R134). -/

namespace Sys2Proof.Machine

/-- A register field of a word is the number its four bits hold. -/
theorem regField_eq {w : Slot} {r : RegNum} {lo p : Nat} (hp : 2 ^ lo = p) (h : w.toNat / p % 16 = r.val) :
    regField w lo = r := Fin.ext ((regField_val w lo p hp).trans h)

/-- An immediate field whose twelve bits are an immediate's reads as that immediate (R102). -/
theorem immField_eq {w : Slot} {v : Int} {lo p : Nat} (hp : 2 ^ lo = p) (h : w.toNat / p % 4096 = immBits v)
    (hv : immInRange v = true) : immField w lo = v :=
  toInt_of_immBits _ v ((field_toNat w lo 12 p 4096 hp rfl).trans h) hv

/-- An immediate field's bits are the twelve bits of the word. -/
theorem immBits_immField {w : Slot} {lo p : Nat} (hp : 2 ^ lo = p) : immBits (immField w lo) = w.toNat / p % 4096 :=
  (immBits_toInt _).trans (field_toNat w lo 12 p 4096 hp rfl)

/-- No operand bit is lost by encoding: the fields of the encoded word are the fields. -/
theorem fieldsOf_encodeFields {n : Nat} (hn : n < 256) {f : Fields} (hf : f.wellFormed = true) :
    fieldsOf (encodeFields n f) = f := by
  obtain ⟨rd, rs, rt, rm, imm1, imm2⟩ := f
  obtain ⟨h1, h2⟩ : immInRange imm1 = true ∧ immInRange imm2 = true := by
    simpa [Fields.wellFormed] using hf
  have hw := encodeFields_toNat hn ⟨rd, rs, rt, rm, imm1, imm2⟩
  have hb1 := Laws.OpcodeField.immBits_lt imm1
  have hb2 := Laws.OpcodeField.immBits_lt imm2
  dsimp only at hw
  rw [fieldsOf, Fields.mk.injEq]
  refine ⟨regField_eq (p := 0x1000000000) rfl ?_, regField_eq (p := 0x100000000) rfl ?_,
    regField_eq (p := 0x10000000) rfl ?_, regField_eq (p := 0x1000000) rfl ?_,
    immField_eq (p := 0x1000) rfl ?_ h1, immField_eq (p := 1) rfl ?_ h2⟩ <;> omega

/-- No bit of a word is lost by reading it as an opcode and fields. -/
theorem encodeFields_fieldsOf (w : Slot) : encodeFields (topByte w) (fieldsOf w) = w := by
  have hw : w.toNat < 281474976710656 := w.isLt
  apply BitVec.eq_of_toNat_eq
  rw [encodeFields_toNat (by rw [topByte]; omega)]
  simp only [fieldsOf, regField_val w 36 0x1000000000 rfl, regField_val w 32 0x100000000 rfl,
    regField_val w 28 0x10000000 rfl, regField_val w 24 0x1000000 rfl, immBits_immField (w := w) (lo := 12) rfl,
    immBits_immField (w := w) (lo := 0) rfl, topByte]
  omega

/-- Settles O1: the encoded word holds the instruction's opcode (`opcodeOf_encodeFields`) and its fields, and the opcode
map reads these two back as the instruction. -/
theorem decodeEncodeRoundTrip : Obligations.DecodeEncodeRoundTrip := by
  unfold Obligations.DecodeEncodeRoundTrip
  intro i hi
  have hop : i.opcode < 256 := Nat.lt_of_le_of_lt (opcode_le i) (by decide)
  apply decode_of_instrOf
  rw [encode, Laws.OpcodeField.opcodeOf_encodeFields hop, fieldsOf_encodeFields hop hi]
  exact instrOf_opcode i

/-- Settles O2: up to 21 the opcode map is defined, and `encodeFields_fieldsOf` gives the word back; from 22 on it is not. -/
theorem decodeIsTotalAndUnambiguous : Obligations.DecodeIsTotalAndUnambiguous := by
  unfold Obligations.DecodeIsTotalAndUnambiguous
  refine fun w => ⟨fun h => ?_, decode_of_topByte_ge⟩
  obtain ⟨i, hi, hop, hfields⟩ := instrOf_defined h (fieldsOf w)
  refine ⟨i, decode_of_instrOf ?_, ?_, hop, ?_⟩
  · rw [opcodeOf_toNat]
    exact hi
  · rw [Instr.wellFormed, hfields, fieldsOf_wellFormed]
  · rw [encode, hop, hfields, encodeFields_fieldsOf]

/-- Settles O3: each word is cut into its fields by evaluation. -/
theorem sampleWordsDecode : Obligations.SampleWordsDecode := by
  unfold Obligations.SampleWordsDecode
  exact ⟨rfl, rfl, rfl, rfl, rfl, rfl⟩

end Sys2Proof.Machine
end

section
/-! PROOFS. The instructions of arithmetic (spec/41_arith_logic.md R150 to R152) and the shifts (spec/42_shift.md R160 to
R162): each ends with `writeAndAdvance`, on a result said here by the mathematical operation. -/

namespace Sys2Proof.Machine

/-! ### 32-bit operations as operations on numbers -/

theorem ofInt_sub (x y : Int) : BitVec.ofInt 32 (x - y) = BitVec.ofInt 32 x - BitVec.ofInt 32 y := by
  rw [sub_eq_add_neg, BitVec.ofInt_add, BitVec.ofInt_neg, ← sub_eq_add_neg]

theorem shiftValue_sll (a : Word) (n : Nat) : shiftValue .sll a n = BitVec.ofNat 32 (a.toNat * 2 ^ n) := by
  apply BitVec.eq_of_toNat_eq
  rw [shiftValue, BitVec.toNat_shiftLeft, Nat.shiftLeft_eq, BitVec.toNat_ofNat]

theorem shiftValue_sra (a : Word) (n : Nat) : shiftValue .sra a n = BitVec.ofInt 32 (a.toInt / 2 ^ n) := by
  rw [shiftValue, BitVec.sshiftRight_eq, Int.shiftRight_eq_div_pow]
  rfl

theorem shiftValue_srl (a : Word) (n : Nat) : shiftValue .srl a n = BitVec.ofNat 32 (a.toNat / 2 ^ n) := by
  have hlt : a.toNat / 2 ^ n < 2 ^ 32 := Nat.lt_of_le_of_lt (Nat.div_le_self _ _) a.isLt
  apply BitVec.eq_of_toNat_eq
  rw [shiftValue, BitVec.toNat_ushiftRight, Nat.shiftRight_eq_div_pow, BitVec.toNat_ofNat, Nat.mod_eq_of_lt hlt]

/-! ### The instructions -/

theorem exec_add (f : Fields) (s : State) :
    exec (.add f) s = .next (s.writeAndAdvance f.rd (s.reg f.rs + s.reg f.rt + s.reg f.rm)) := rfl

theorem exec_sub (f : Fields) (s : State) :
    exec (.sub f) s = .next (s.writeAndAdvance f.rd (s.reg f.rs - s.reg f.rt - s.reg f.rm)) := rfl

theorem exec_mac (f : Fields) (s : State) :
    exec (.mac f) s = .next (s.writeAndAdvance f.rd (s.reg f.rs * s.reg f.rt + s.reg f.rm)) := rfl

/-- A shift looks at x[rs] and at the low five bits of x[rt]. -/
theorem shiftResult_latch (op : ShiftOp) (f : Fields) (s : State) :
    shiftResult op (latch f s) = shiftValue op (s.reg f.rs) ((s.reg f.rt).toNat % 32) := shiftResult_eq op (latch f s)

theorem exec_sll (f : Fields) (s : State) : exec (.sll f) s =
    .next (s.writeAndAdvance f.rd (shiftValue .sll (s.reg f.rs) ((s.reg f.rt).toNat % 32))) := by
  rw [← shiftResult_latch]
  rfl

theorem exec_sra (f : Fields) (s : State) : exec (.sra f) s =
    .next (s.writeAndAdvance f.rd (shiftValue .sra (s.reg f.rs) ((s.reg f.rt).toNat % 32))) := by
  rw [← shiftResult_latch]
  rfl

theorem exec_srl (f : Fields) (s : State) : exec (.srl f) s =
    .next (s.writeAndAdvance f.rd (shiftValue .srl (s.reg f.rs) ((s.reg f.rt).toNat % 32))) := by
  rw [← shiftResult_latch]
  rfl

/-- Settles O4: the instructions end with `writeAndAdvance`, and reduction modulo 2^32 commutes with sum, difference and
product. -/
theorem addSubMacWriteWrappedResult : Obligations.AddSubMacWriteWrappedResult := by
  unfold Obligations.AddSubMacWriteWrappedResult
  refine fun f s => ⟨?add, ?sub, ?mac⟩
  case add =>
    simp only [BitVec.ofNat_add, BitVec.ofNat_toNat, BitVec.setWidth_eq]
    exact writesRegOnly_of_exec (exec_add f s)
  case sub =>
    simp only [ofInt_sub, BitVec.ofInt_toInt]
    exact writesRegOnly_of_exec (exec_sub f s)
  case mac =>
    simp only [BitVec.ofNat_add, BitVec.ofNat_mul, BitVec.ofNat_toNat, BitVec.setWidth_eq]
    exact writesRegOnly_of_exec (exec_mac f s)

/-- Settles O6: every shift is by the low five bits of the amount (`shiftResult_eq`), in its arithmetic form. -/
theorem shiftsUseLowFiveBits : Obligations.ShiftsUseLowFiveBits := by
  unfold Obligations.ShiftsUseLowFiveBits
  intro f s
  rw [← shiftValue_sll, ← shiftValue_sra, ← shiftValue_srl]
  exact ⟨writesRegOnly_of_exec (exec_sll f s), writesRegOnly_of_exec (exec_sra f s), writesRegOnly_of_exec (exec_srl f s)⟩

end Sys2Proof.Machine
end

section
/-! PROOFS. The ordering branches (spec/43_branch_jump.md R173 to R176) and `jal` (R177). -/

namespace Sys2Proof.Machine

theorem exec_blt (f : Fields) (s : State) :
    exec (.blt f) s = .next (s.branch (latch f s) (condLt (latch f s))) := rfl

theorem exec_bgt (f : Fields) (s : State) :
    exec (.bgt f) s = .next (s.branch (latch f s) (condGt (latch f s))) := rfl

theorem exec_ble (f : Fields) (s : State) :
    exec (.ble f) s = .next (s.branch (latch f s) (condLe (latch f s))) := rfl

theorem exec_bge (f : Fields) (s : State) :
    exec (.bge f) s = .next (s.branch (latch f s) (condGe (latch f s))) := rfl

/-- Settles O8: each instruction is a `branch` whose condition is a signed comparison of the latched sources. -/
theorem orderingBranchesCompareSigned : Obligations.OrderingBranchesCompareSigned := by
  unfold Obligations.OrderingBranchesCompareSigned
  intro f s
  exact ⟨setsPcOnly_of_exec (exec_blt f s) (condLt_iff (latch f s)),
    setsPcOnly_of_exec (exec_bgt f s) (condGt_iff (latch f s)),
    setsPcOnly_of_exec (exec_ble f s) (condLe_iff (latch f s)),
    setsPcOnly_of_exec (exec_bge f s) (condGe_iff (latch f s))⟩

theorem exec_jal (f : Fields) (s : State) :
    exec (.jal f) s = .next ((s.writeReg f.rd (linkValue s.pc)).setPc (low12 (s.reg f.rm))) := rfl

/-- The link value is not masked to twelve bits: it is 4096 at pc 4095. -/
theorem linkValue_eq (p : Pc) : linkValue p = BitVec.ofNat 32 (p.toNat + 1) := by
  rw [linkValue, BitVec.ofNat_add, BitVec.ofNat_toNat]
  rfl

/-- Writing the link and jumping touch none of the hidden fields. -/
theorem State.writeReg_setPc_keepsHidden (s : State) (r : RegNum) (v : Word) (p : Pc) :
    KeepsHidden s ((s.writeReg r v).setPc p) := by simp [KeepsHidden]

/-- Settles O9: `exec_jal` reads the target in the state before the link is written. -/
theorem jalLinksThenJumpsToOldTarget : Obligations.JalLinksThenJumpsToOldTarget := by
  unfold Obligations.JalLinksThenJumpsToOldTarget
  intro f s
  rw [← linkValue_eq]
  exact ⟨_, exec_jal f s, s.reg_writeReg f.rd _, low12_toNat _, ⟨s.writeReg_isr _ _, s.writeReg_halted _ _⟩,
    s.writeReg_ioAt _ _, fun a => by rw [State.setPc_dmem, State.writeReg_dmem], s.writeReg_setPc_keepsHidden _ _ _,
    s.writeReg_diags _ _⟩

end Sys2Proof.Machine
end

section
/-! PROOFS. `lw` (spec/44_load_store.md R190) and `in` (spec/45_system_io.md R201): a read, then `writeAndAdvance`. -/

namespace Sys2Proof.Machine

theorem exec_lw (f : Fields) (s : State) : exec (.lw f) s =
    .next ((s.memRead (s.reg f.rs + s.reg f.rt)).2.writeAndAdvance f.rd
      ((s.memRead (s.reg f.rs + s.reg f.rt)).1 + s.reg f.rm)) := rfl

theorem exec_in (f : Fields) (s : State) : exec (.in_ f) s =
    .next ((s.ioRead (s.reg f.rs + s.reg f.rt)).2.writeAndAdvance f.rd (s.ioRead (s.reg f.rs + s.reg f.rt)).1) := rfl

/-- An instruction whose read fails still completes: it reports, writes its register, advances pc, and changes nothing
else (R190, R201). -/
theorem writesRegAndReports_of_exec {i : Instr} {s : State} {d : Diagnostic} {rd : RegNum} {v : Word}
    (h : exec i s = .next ((s.report d).writeAndAdvance rd v)) :
    ∃ t, exec i s = .next t ∧ RegsAfterWrite s t rd v ∧ PcAdvanced s t ∧ KeepsFlags s t ∧ KeepsIo s t ∧
      KeepsDmem s t ∧ KeepsHidden s t ∧ t.diags = d :: s.diags := by
  have hpc : PcAdvanced s ((s.report d).writeAndAdvance rd v) := by
    rw [PcAdvanced, State.writeAndAdvance_pc, pc_succ_toNat, State.report_pc]
  exact ⟨_, h, (s.report d).writeAndAdvance_reg rd v, hpc,
    ⟨(s.report d).writeAndAdvance_isr rd v, (s.report d).writeAndAdvance_halted rd v⟩,
    (s.report d).writeAndAdvance_ioAt rd v, fun a => by rw [State.writeAndAdvance_dmem, State.report_dmem],
    (s.report d).writeAndAdvance_keepsHidden rd v, (s.report d).writeAndAdvance_diags rd v⟩

/-- Settles O10: the two cases of the index are those of `memRead`; out of range the word read is zero. -/
theorem loadWordAddsRm : Obligations.LoadWordAddsRm := by
  unfold Obligations.LoadWordAddsRm
  refine fun f s => ⟨fun h => writesRegOnly_of_exec ?_, fun h => writesRegAndReports_of_exec ?_⟩
  · rw [exec_lw, State.memRead_valid s h]
  · simp only [exec_lw, State.memRead_invalid s h, zero_add]

/-- Settles O14: the two cases of the index are those of `ioRead`. -/
theorem inReadsSlotOrZero : Obligations.InReadsSlotOrZero := by
  unfold Obligations.InReadsSlotOrZero
  refine fun f s => ⟨fun r h => writesRegOnly_of_exec ?_, fun h => writesRegAndReports_of_exec ?_⟩
  · rw [exec_in, State.ioRead_slot s h]
  · rw [exec_in, State.ioRead_invalid s h]

/-- Settles O12: a read in range is a read of data memory, and `memWrite` in range is a write of one word there; out of
range it changes no word. -/
theorem memReadAfterMemWrite : Obligations.MemReadAfterMemWrite := by
  unfold Obligations.MemReadAfterMemWrite
  intro s a b v
  split
  case isFalse hb => rw [State.memRead_invalid _ (Nat.not_lt.mp hb)]
  case isTrue hb =>
    rw [State.memRead_valid _ hb]
    by_cases ha : a.toNat < 4096
    · obtain ⟨hread, -⟩ := s.memWrite_inRange_effect ha v
      exact (hread b.toNat).trans (if_congr BitVec.toNat_inj rfl rfl)
    · obtain ⟨hread, -⟩ := s.memWrite_outOfRange_effect (Nat.not_lt.mp ha) v
      have hne : b ≠ a := fun h => ha (h ▸ hb)
      rw [if_neg hne]
      exact hread b.toNat

end Sys2Proof.Machine
end

section
/-! PROOFS. `halt` (spec/45_system_io.md R203), and the fields an instruction does not use (spec/30_encoding.md R106). -/

namespace Sys2Proof.Machine

theorem exec_halt (f : Fields) (s : State) : exec (.halt f) s = .next (s.setHalted true) := rfl

theorem State.setHalted_keepsHidden (s : State) (v : Bool) : KeepsHidden s (s.setHalted v) := by simp [KeepsHidden]

/-- Settles O16: `halt` is `setHalted`. -/
theorem haltSetsHaltedOnly : Obligations.HaltSetsHaltedOnly := by
  unfold Obligations.HaltSetsHaltedOnly
  intro f s
  exact ⟨_, exec_halt f s, s.setHalted_halted true, s.setHalted_pc true, s.setHalted_isr true, s.setHalted_reg true,
    s.setHalted_ioAt true, fun a => by rw [State.setHalted_dmem], s.setHalted_keepsHidden true, s.setHalted_diags true⟩

/-- Fields with the same three sources latch operands that differ at most in `d`, which is x[rd]. -/
theorem latch_eq_of_sources {f g : Fields} (h : f.rs = g.rs ∧ f.rt = g.rt ∧ f.rm = g.rm) (s : State) :
    latch f s = { latch g s with d := s.reg f.rd } := by
  obtain ⟨hrs, hrt, hrm⟩ := h
  simp only [latch, hrs, hrt, hrm]

/-- Settles O18: the equation of each instruction names the registers it uses, and no other field occurs in it; no
branch looks at the operand `d`. -/
theorem unusedFieldsAreIgnored : Obligations.UnusedFieldsAreIgnored := by
  unfold Obligations.UnusedFieldsAreIgnored
  refine fun f g s => ⟨?shiftsAndIn, ?branchesAndOut, ?jal, rfl, rfl⟩
  case shiftsAndIn =>
    rintro ⟨hrd, hrs, hrt⟩
    simp only [exec_sll, exec_sra, exec_srl, exec_in, hrd, hrs, hrt, and_self]
  case branchesAndOut =>
    intro h
    have hlatch := latch_eq_of_sources h s
    obtain ⟨hrs, hrt, hrm⟩ := h
    simp only [exec_beq, exec_bne, exec_blt, exec_bgt, exec_ble, exec_bge, exec_out, hlatch, hrs, hrt, hrm, and_true]
    exact ⟨rfl, rfl, rfl, rfl, rfl, rfl⟩
  case jal =>
    rintro ⟨hrd, hrm⟩
    rw [exec_jal, exec_jal, hrd, hrm]

end Sys2Proof.Machine
end

section
/-! PROOFS. Who writes the registers (spec/10_state.md R21, R23), and the bank's table and bus (R30; spec/20_memory.md R80,
R81). -/

namespace Sys2Proof.Machine

/-- Settles O20: an instruction that does not keep the register is in the other case of `exec_reg_eq_or`. -/
theorem onlyListedInstructionsWriteTheirRd : Obligations.OnlyListedInstructionsWriteTheirRd := by
  unfold Obligations.OnlyListedInstructionsWriteTheirRd
  intro i s t r h hne
  obtain hkeep | ⟨hwrites, rfl, hrd⟩ := exec_reg_eq_or h r
  · exact absurd hkeep hne
  · exact ⟨hwrites, rfl, hrd⟩

/-- Settles O22: the two columns are evaluated slot by slot. -/
theorem bankHasTheListedSlots : Obligations.BankHasTheListedSlots := by
  unfold Obligations.BankHasTheListedSlots
  rfl

/-- Settles O23: a slot's index is the slot for both directions of the bus, so the read gives what `ioWrite_slot_effect`
says was stored. -/
theorem busWriteThenReadIsMasked : Obligations.BusWriteThenReadIsMasked := by
  unfold Obligations.BusWriteThenReadIsMasked
  refine fun s i v => ⟨fun r h => ?_, fun h => ⟨State.ioWrite_invalid s h v, State.ioRead_invalid s h⟩⟩
  obtain ⟨hstored, -, hdiags⟩ := s.ioWrite_slot_effect h v
  rw [State.ioRead_slot _ h, State.ioRead_slot s h]
  exact ⟨hstored, rfl, hdiags⟩

end Sys2Proof.Machine
end

section
/-! PROOFS. One cycle (spec/40_cycle_pipeline.md R130 to R142): it answers a next state, it is the execute stage on the
state steps 1 to 9 left, it adds one trace record, and only `halt` ends the run. -/

namespace Sys2Proof.Machine

/-! ### Every step answers a next state -/

theorem exec_answers (i : Instr) (s : State) : ∃ t, exec i s = .next t := by
  cases i <;> exact ⟨_, rfl⟩

/-- A running step on a word of the table: the instruction, on the state steps 1 to 9 left. -/
theorem step_of_instr {s : State} {i : Instr} (hs : s.halted = false) (h : decode (fetchedWord s) = .instr i) :
    step s = exec i (executeState s) := by
  rw [step_running hs, executeWord, h]

theorem step_answers (s : State) : ∃ t, step s = .next t := by
  cases hs : s.halted with
  | true => exact ⟨s, step_halted hs⟩
  | false =>
    cases hw : decode (fetchedWord s) with
    | instr i => rw [step_of_instr hs hw]; exact exec_answers i _
    | unsupported op => exact ⟨_, step_of_unsupported hs hw⟩

/-- Settles O25: instructions by `exec_answers`, steps by `step_answers`. -/
theorem everyStepAnswersNext : Obligations.EveryStepAnswersNext := by
  unfold Obligations.EveryStepAnswersNext
  exact ⟨exec_answers, step_answers⟩

/-! ### What the execute stage starts from -/

/-- Settles O24: the step is `step_of_instr`; steps 7 to 9 load the two immediates, add a trace record and a cycle, and leave
the rest as the devices left it. -/
theorem stepRunsDecodedInstruction : Obligations.StepRunsDecodedInstruction := by
  unfold Obligations.StepRunsDecodedInstruction
  intro s i hs h
  refine ⟨step_of_instr hs h, ?fetched, executeState_pc s, ?flags, executeState_ioAt s, ?dmem, ?regs, ?trace,
    executeState_cycle s, ?diags⟩
  case fetched => rw [fetchedWord, fetch, beforeFetch_eq, State.setCycle_imem, State.setCycle_pc]
  case flags => simp [KeepsFlags, executeState, beforeFetch_eq]
  case dmem => intro a; simp [executeState, beforeFetch_eq]
  case regs => simpa only [devicePhase_reg] using executeState_reg s
  case trace => rw [executeState_trace, List.length_cons]
  case diags => simp [executeState, beforeFetch_eq]

/-! ### What the execute stage leaves alone -/

/-- What no running step touches after its steps 1 to 9: `exec_untouched`, and the same for an unsupported opcode. -/
theorem step_untouched {s t : State} (hs : s.halted = false) (h : step s = .next t) :
    t.diskRemaining = (executeState s).diskRemaining ∧ t.disk = (executeState s).disk ∧ t.mon = (executeState s).mon ∧
      t.imem = (executeState s).imem ∧ t.extSched = (executeState s).extSched ∧ t.cycle = (executeState s).cycle ∧
      t.trace = (executeState s).trace := by
  obtain ⟨i, -, hexec⟩ | ⟨op, -, rfl⟩ := step_cases hs h
  · exact exec_untouched hexec
  · simp

/-- The record's snapshot shows the registers as the execute stage reads them. -/
theorem snapshot_executeState_reg (s : State) (q : RegNum) :
    ((beforeFetch s).loadImmediates (fieldsOf (fetchedWord s))).snapshot[q.val] = (executeState s).reg q := by
  rw [State.snapshot_get, executeState, decodePhase, State.emit_reg]

/-- Settles O27: the record is the one `executeState_trace` names, and the execute stage adds none. -/
theorem oneTraceRecordPerCycle : Obligations.OneTraceRecordPerCycle := by
  unfold Obligations.OneTraceRecordPerCycle
  intro s t hs h
  obtain ⟨-, -, -, -, -, -, htrace⟩ := step_untouched hs h
  exact ⟨_, htrace.trans (executeState_trace s), snapshot_executeState_reg s⟩

/-! ### The end of the run -/

/-- An instruction ends halted if the machine was, or if it is `halt`. -/
theorem exec_halted_iff {i : Instr} {s t : State} (h : exec i s = .next t) :
    t.halted = true ↔ s.halted = true ∨ ∃ f, i = .halt f := by
  cases i <;> injection h with h <;> subst h
  case halt f => exact iff_of_true rfl (.inr ⟨f, rfl⟩)
  all_goals simp

/-- Settles O26: the execute stage starts running, so `exec_halted_iff` leaves `halt` alone; an unsupported opcode keeps the
flag. -/
theorem onlyHaltEndsTheRun : Obligations.OnlyHaltEndsTheRun := by
  unfold Obligations.OnlyHaltEndsTheRun
  refine ⟨fun s hs => step_halted hs, fun s t hs h => ?_⟩
  have hrunning : ¬ (executeState s).halted = true := by simp [executeState_halted, hs]
  obtain ⟨i, hw, hexec⟩ | ⟨op, hw, rfl⟩ := step_cases hs h
  · rw [exec_halted_iff hexec, hw, or_iff_right hrunning]
    simp only [Decoded.instr.injEq]
  · rw [hw]
    rw [State.advance_halted, State.report_halted]
    exact iff_of_false hrunning (by simp)

/-! ### Runs and the disk's busy counter -/

/-- A halted machine stays as it is over any run. -/
theorem run_halted {s : State} (hs : s.halted = true) (n : Nat) : Sys2Proof.core.run n s = .next s := by
  induction n with
  | zero => rfl
  | succ n ih => rw [run_succ_of_next (step_halted hs), ih]

/-- A cycle counts a busy disk down by one, whatever its instruction (R241). -/
theorem step_diskRemaining_of_busy {s t : State} (hs : s.halted = false) (hbusy : 0 < s.diskRemaining)
    (h : step s = .next t) : t.diskRemaining = s.diskRemaining - 1 := by
  obtain ⟨hremaining, -⟩ := step_untouched hs h
  have hbefore : (sampleExternal (tickTimer (tickClock s))).diskRemaining = s.diskRemaining := by simp
  rw [hremaining, executeState, decodePhase_diskRemaining, beforeFetch_eq, State.setCycle_diskRemaining, devicePhase_eq,
    serviceMonitor_diskRemaining, dispatchInterrupt_diskRemaining, beforeDispatch,
    tickDisk_diskRemaining_of_busy (by rw [hbefore]; exact hbusy), hbefore]

/-- Settles O38, by induction on the length of the run: a halted state would end the run halted, and a running one counts
down by one. -/
theorem diskLatencyRunsItsFullLength : Obligations.DiskLatencyRunsItsFullLength := by
  unfold Obligations.DiskLatencyRunsItsFullLength
  intro n
  induction n with
  | zero =>
    intro s t _ hrun _
    injection hrun with hrun
    rw [← hrun, Nat.sub_zero]
  | succ n ih =>
    intro s t hn hrun ht
    cases hs : s.halted with
    | true =>
      rw [run_halted hs] at hrun
      injection hrun with hrun
      rw [← hrun, hs] at ht
      cases ht
    | false =>
      obtain ⟨u, hu⟩ := step_answers s
      have hcount := step_diskRemaining_of_busy hs (by omega) hu
      rw [run_succ_of_next hu] at hrun
      rw [ih u t (by omega) hrun ht]
      omega

end Sys2Proof.Machine
end

section
/-! PROOFS. The ISR flag is no input of the execute stage (spec/60_exceptions.md R270): every shared operation commutes with
setting it. -/

namespace Sys2Proof.Machine

variable (s : State) (b : Bool)

theorem State.setIsr_writeReg (r : RegNum) (v : Word) : (s.setIsr b).writeReg r v = (s.writeReg r v).setIsr b := by
  unfold State.writeReg
  split <;> rfl

theorem State.setIsr_writeAndAdvance (rd : RegNum) (v : Word) :
    (s.setIsr b).writeAndAdvance rd v = (s.writeAndAdvance rd v).setIsr b :=
  congrArg State.advance (s.setIsr_writeReg b rd v)

theorem State.setIsr_branch (o : Operands) (cond : Bool) : (s.setIsr b).branch o cond = (s.branch o cond).setIsr b := by
  unfold State.branch
  split <;> rfl

theorem State.setIsr_memRead (a : Word) : (s.setIsr b).memRead a = ((s.memRead a).1, (s.memRead a).2.setIsr b) := by
  unfold State.memRead
  split <;> rfl

theorem State.setIsr_memWrite (a v : Word) : (s.setIsr b).memWrite a v = (s.memWrite a v).setIsr b := by
  unfold State.memWrite
  split <;> rfl

theorem State.setIsr_ioRead (i : Word) : (s.setIsr b).ioRead i = ((s.ioRead i).1, (s.ioRead i).2.setIsr b) := by
  unfold State.ioRead
  split <;> rfl

theorem State.setIsr_ioWrite (i v : Word) : (s.setIsr b).ioWrite i v = (s.ioWrite i v).setIsr b := by
  unfold State.ioWrite
  split
  · split <;> rfl
  · rfl

/-- Settles O30: each instruction ends with operations that commute with setting the flag; `reti` overwrites it. -/
theorem isrDoesNotAffectExecution : Obligations.IsrDoesNotAffectExecution := by
  unfold Obligations.IsrDoesNotAffectExecution
  intro i s t b h
  cases i <;> injection h with h <;> subst h
  case add f | sub f | mac f | and f | or f | xor f | sll f | sra f | srl f =>
    exact congrArg Host.Outcome.next (s.setIsr_writeAndAdvance b f.rd _)
  case beq | bne | blt | bgt | ble | bge => exact congrArg Host.Outcome.next (s.setIsr_branch b _ _)
  case jal => rw [exec_jal, State.setIsr_writeReg]; rfl
  case lw => rw [exec_lw, State.setIsr_memRead, State.setIsr_writeAndAdvance]; rfl
  case sw => rw [exec_sw, State.setIsr_memWrite]; rfl
  case in_ => rw [exec_in, State.setIsr_ioRead, State.setIsr_writeAndAdvance]; rfl
  case out => rw [exec_out, State.setIsr_ioWrite]; rfl
  case reti | halt => rfl

end Sys2Proof.Machine
end

section
/-! PROOFS. The external line (spec/60_exceptions.md R235). -/

namespace Sys2Proof.Machine

/-- The line is asserted exactly when the schedule holds the cycle's ordinal with a set flag (R58). -/
theorem extIrq_iff (sched : List (Nat × Bool)) (k : Nat) : extIrq sched k = true ↔ (k, true) ∈ sched := by
  simp [extIrq, config_extCycleBase]

theorem sampleExternal_keepsProgram (s : State) : KeepsProgram s (sampleExternal s) := by
  simp [KeepsProgram, KeepsRegs, KeepsFlags]

/-- The sample touches none of the hidden fields. -/
theorem sampleExternal_keepsHidden (s : State) : KeepsHidden s (sampleExternal s) := by simp [KeepsHidden]

/-- Settles O33: `extIrq_iff` is the condition of the two cases. -/
theorem externalLineSetsIrq2Status : Obligations.ExternalLineSetsIrq2Status := by
  unfold Obligations.ExternalLineSetsIrq2Status
  refine fun s => ⟨fun h => ?_, fun h => if_neg (mt (extIrq_iff _ _).mp h)⟩
  have hirq := (extIrq_iff _ _).mpr h
  refine ⟨?_, fun r hr => ?_, sampleExternal_keepsProgram s, fun a => by rw [sampleExternal_dmem],
    sampleExternal_keepsHidden s, sampleExternal_diags s⟩
  · simp [sampleExternal_ioAt, hirq]
  · simp [sampleExternal_ioAt, hr]

end Sys2Proof.Machine
end

section
/-! PROOFS. The interrupt dispatcher and the return (spec/60_exceptions.md R250, R252, R254). -/

namespace Sys2Proof.Machine

/-! ### Taking an interrupt -/

/-- Outside a handler the dispatcher takes a pending line. -/
theorem dispatchInterrupt_of_pending {s : State} (hm : s.IoMasked) (h : SomeLinePending s ∧ s.isr = false) :
    dispatchInterrupt s = s.takeInterrupt := by
  obtain ⟨hpending, hisr⟩ := h
  rw [dispatchInterrupt, if_pos (by simp [hm.irqPending_iff.mpr hpending, hisr])]

/-- With no line pending, or inside a handler, it does nothing. -/
theorem dispatchInterrupt_of_not_pending {s : State} (hm : s.IoMasked) (h : ¬ (SomeLinePending s ∧ s.isr = false)) :
    dispatchInterrupt s = s := by
  rw [← hm.irqPending_iff] at h
  exact if_neg (by simpa using h)

/-- Inside a handler it does nothing, whatever the bank holds. -/
theorem dispatchInterrupt_of_isr {s : State} (h : s.isr = true) : dispatchInterrupt s = s := if_neg (by simp [h])

/-- Taking an interrupt writes no slot but irqreturn. -/
theorem State.takeInterrupt_ioAt_of_ne (s : State) {r : IoReg} (hr : r ≠ .irqreturn) :
    s.takeInterrupt.ioAt r = s.ioAt r := by simp [State.takeInterrupt, hr]

/-- Taking an interrupt touches none of the hidden fields. -/
theorem State.takeInterrupt_keepsHidden (s : State) : KeepsHidden s s.takeInterrupt := by simp [KeepsHidden]

/-- irqreturn holds the whole pc. -/
theorem State.takeInterrupt_irqreturn_toNat (s : State) :
    (s.takeInterrupt.ioAt .irqreturn).toNat = s.pc.toNat := by
  rw [State.takeInterrupt_irqreturn]
  exact BitVec.toNat_setWidth_of_le (by decide)

/-- With irqhandler inside its twelve bits, its low twelve bits are its value. -/
theorem State.IoMasked.low12_irqhandler_toNat {s : State} (hm : s.IoMasked) :
    (low12 (s.ioAt .irqhandler)).toNat = (s.ioAt .irqhandler).toNat := by
  rw [low12_toNat]
  exact Nat.mod_eq_of_lt (hm .irqhandler)

/-- Settles O39: the dispatcher is `takeInterrupt` or nothing. -/
theorem dispatcherTakesEnabledPendingLine : Obligations.DispatcherTakesEnabledPendingLine := by
  unfold Obligations.DispatcherTakesEnabledPendingLine
  intro s hinv
  have hm : s.IoMasked := hinv.ioMasked
  refine ⟨fun h => ?_, dispatchInterrupt_of_not_pending hm⟩
  rw [dispatchInterrupt_of_pending hm h]
  exact ⟨s.takeInterrupt_irqreturn_toNat, hm.low12_irqhandler_toNat, s.takeInterrupt_isr,
    fun r => s.takeInterrupt_ioAt_of_ne, s.takeInterrupt_halted, s.takeInterrupt_reg,
    fun a => by rw [State.takeInterrupt_dmem], s.takeInterrupt_keepsHidden, s.takeInterrupt_diags⟩

/-- Settles O42: `executeState_of_pending` is the first two clauses; pc is where the dispatcher put it. -/
theorem pendingLineIsTakenInNextCycle : Obligations.PendingLineIsTakenInNextCycle := by
  unfold Obligations.PendingLineIsTakenInNextCycle
  intro s hinv hisr hpending
  have hm : s.IoMasked := hinv.ioMasked
  obtain ⟨hexecIsr, hreturn⟩ := executeState_of_pending hm hisr hpending
  have hpending' := (beforeDispatch_ioMasked hm).irqPending_iff.mpr (beforeDispatch_someLinePending hpending)
  refine ⟨hexecIsr, hreturn, ?_⟩
  rw [executeState_pc, devicePhase_eq, serviceMonitor_pc, dispatchInterrupt_pc,
    if_pos ⟨hpending', (beforeDispatch_isr s).trans hisr⟩, beforeDispatch_irqhandler, hm.low12_irqhandler_toNat]

/-! ### Returning -/

/-- Only `reti` changes the ISR flag. -/
theorem exec_isr_eq_or {i : Instr} {s t : State} (h : exec i s = .next t) : t.isr = s.isr ∨ ∃ f, i = .reti f := by
  cases i <;> injection h with h <;> subst h
  case reti f => exact .inr ⟨f, rfl⟩
  all_goals exact .inl (by simp)

/-- Settles O40: the dispatcher by `dispatchInterrupt_of_isr`, the instructions by `exec_isr_eq_or`. -/
theorem noNestingUntilReti : Obligations.NoNestingUntilReti := by
  unfold Obligations.NoNestingUntilReti
  refine ⟨fun s => dispatchInterrupt_of_isr, fun i s t hs h ht => ?_⟩
  obtain hkeep | hreti := exec_isr_eq_or h
  · rw [hkeep, hs] at ht
    cases ht
  · exact hreti

/-- The return goes back to the pc the entry saved. -/
theorem State.returnFromInterrupt_takeInterrupt_pc (s : State) : s.takeInterrupt.returnFromInterrupt.pc = s.pc := by
  apply BitVec.eq_of_toNat_eq
  rw [State.returnFromInterrupt_pc_toNat, State.takeInterrupt_irqreturn_toNat]
  exact Nat.mod_eq_of_lt s.pc.isLt

/-- Settles O41: `reti` is `returnFromInterrupt`, which undoes what `takeInterrupt` did to pc and the flag and touches
nothing else. -/
theorem returnResumesInterruptedProgram : Obligations.ReturnResumesInterruptedProgram := by
  unfold Obligations.ReturnResumesInterruptedProgram
  intro s f _
  exact ⟨_, exec_reti f s.takeInterrupt, s.returnFromInterrupt_takeInterrupt_pc, State.returnFromInterrupt_isr _,
    s.takeInterrupt_halted, s.takeInterrupt_reg, fun r => s.takeInterrupt_ioAt_of_ne,
    fun a => by rw [State.returnFromInterrupt_dmem, State.takeInterrupt_dmem], s.takeInterrupt_keepsHidden,
    s.takeInterrupt_diags⟩

end Sys2Proof.Machine
end

section
/-! PROOFS. Who writes the I/O bank in a cycle, and that a pending status bit stays (spec/60_exceptions.md R226). -/

namespace Sys2Proof.Machine

/-- What `IoWrite` can do to a slot: keep it, or store the value reduced to its width when the index is the slot's. -/
theorem State.ioWrite_ioAt_eq_or (s : State) (i v : Word) (q : IoReg) :
    (s.ioWrite i v).ioAt q = s.ioAt q ∨
      (i.toNat = q.index.val ∧ ((s.ioWrite i v).ioAt q).toNat = v.toNat % 2 ^ q.width) := by
  obtain ⟨r, hindex, -⟩ | ⟨hout, -⟩ := IoReg.ofIndex_cases i.toNat
  · obtain ⟨hstored, hothers, -⟩ := s.ioWrite_slot_effect hindex.symm v
    by_cases hq : q = r
    · subst hq
      by_cases hwidth : q.width = 0
      · rw [if_pos hwidth] at hstored
        exact .inl (BitVec.eq_of_toNat_eq hstored)
      · rw [if_neg hwidth] at hstored
        exact .inr ⟨hindex.symm, hstored⟩
    · exact .inl (hothers q hq)
  · obtain ⟨hkeep, -⟩ := s.ioWrite_invalid_effect hout v
    exact .inl (hkeep q)

/-- What an instruction can do to a slot: keep it or, if it is an `out` to that slot, store x[rm] reduced to its width. -/
theorem exec_ioAt_eq_or {i : Instr} {s t : State} (h : exec i s = .next t) (q : IoReg) :
    t.ioAt q = s.ioAt q ∨ ∃ f, i = .out f ∧ (s.reg f.rs + s.reg f.rt).toNat = q.index.val ∧
      (t.ioAt q).toNat = (s.reg f.rm).toNat % 2 ^ q.width := by
  cases i <;> injection h with h <;> subst h
  case out f => exact (s.ioWrite_ioAt_eq_or _ _ q).imp_right fun ⟨hindex, hstored⟩ => ⟨f, rfl, hindex, hstored⟩
  all_goals exact .inl (by simp)

theorem isStatusSlot_width {r : IoReg} (hr : isStatusSlot r) : r.width = 1 := by
  obtain rfl | rfl | rfl := hr <;> rfl

/-- Neither a device nor the dispatcher clears a status bit: it is still set when the cycle's instruction executes. -/
theorem executeState_status {s : State} {r : IoReg} (hr : isStatusSlot r) (h : s.ioAt r = 1) :
    (executeState s).ioAt r = 1 := by
  have hcmd : r ≠ .monitorcmd := by obtain rfl | rfl | rfl := hr <;> decide
  have hreturn : r ≠ .irqreturn := by obtain rfl | rfl | rfl := hr <;> decide
  rw [executeState_ioAt, devicePhase_eq, serviceMonitor_ioAt, if_neg (hcmd ·.2), dispatchInterrupt_ioAt,
    if_neg (hreturn ·.2), beforeDispatch_status h hr]

/-- Settles O43: the bit is set when the instruction executes, and of the instructions only an `out` to the slot changes it,
to bit 0 of its value. -/
theorem statusBitsStayUntilOutClears : Obligations.StatusBitsStayUntilOutClears := by
  unfold Obligations.StatusBitsStayUntilOutClears
  intro s t r hr hs h hstep
  have hset := executeState_status hr h
  obtain ⟨i, hw, hexec⟩ | ⟨op, -, rfl⟩ := step_cases hs hstep
  · obtain hkeep | ⟨f, rfl, hindex, hstored⟩ := exec_ioAt_eq_or hexec r
    · exact .inl (hkeep.trans hset)
    · rw [isStatusSlot_width hr, pow_one] at hstored
      obtain heven | hodd := Nat.mod_two_eq_zero_or_one ((executeState s).reg f.rm).toNat
      · exact .inr ⟨f, hw, hindex, heven⟩
      · exact .inl (BitVec.eq_of_toNat_eq (hstored.trans hodd))
  · rw [State.advance_ioAt, State.report_ioAt]
    exact .inl hset

end Sys2Proof.Machine
end

section
/-! PROOFS. `WriteSector` (spec/60_exceptions.md R244): the byte each place of the sector gets, then the whole sector. -/

namespace Sys2Proof.Machine

/-! ### The bytes of a word, most significant first -/

/-- The byte `WriteSector` takes out of word `w` for byte `b` of the sector. -/
def byteOfWord (w : Word) (b : Nat) : Byte := (w >>> byteShift b).setWidth 8

/-- The byte in place `k` of a word, by arithmetic. -/
theorem byteOfWord_toNat (w : Word) (j : Nat) {k : Nat} (hk : k < 4) :
    (byteOfWord w (4 * j + k)).toNat = w.toNat / 2 ^ (8 * (3 - k)) % 256 := by
  have hplace : (4 * j + k) % 4 = k := by omega
  rw [byteOfWord, byteShift, hplace, BitVec.toNat_setWidth, BitVec.toNat_ushiftRight, Nat.shiftRight_eq_div_pow]

/-- The four bytes of a word, put together again, are the word. -/
theorem sum_byteOfWord (w : Word) (j : Nat) :
    (byteOfWord w (4 * j)).toNat * 2 ^ 24 + (byteOfWord w (4 * j + 1)).toNat * 2 ^ 16 +
      (byteOfWord w (4 * j + 2)).toNat * 2 ^ 8 + (byteOfWord w (4 * j + 3)).toNat = w.toNat := by
  have h0 := byteOfWord_toNat w j (k := 0) (by decide)
  have h1 := byteOfWord_toNat w j (k := 1) (by decide)
  have h2 := byteOfWord_toNat w j (k := 2) (by decide)
  have h3 := byteOfWord_toNat w j (k := 3) (by decide)
  have hw : w.toNat < 4294967296 := w.isLt
  rw [Nat.add_zero] at h0
  rw [h0, h1, h2, h3]
  omega

/-! ### The words of the buffer -/

/-- Word `j` of the buffer as the transfer reads it: zero where it is out of range (R92). -/
def bufferWord (s : State) (buf : Word) (j : Nat) : Word :=
  if buf.toNat + j < 4096 then s.dmem.read (buf.toNat + j) else 0

theorem bufferWord_congr {s t : State} (h : t.dmem = s.dmem) (buf : Word) (j : Nat) :
    bufferWord t buf j = bufferWord s buf j := by
  rw [bufferWord, bufferWord, h]

section
variable {buf : Word} (hbuf : buf.toNat < 4096)
include hbuf

/-- What `MemRead` gives for a byte of the transfer. -/
theorem memRead_transferIndex (s : State) {b : Nat} (hb : b < 512) :
    (s.memRead (transferIndex buf b)).1 = bufferWord s buf (b / 4) := by
  have hindex := transferIndex_toNat hbuf hb
  rw [bufferWord, ← hindex]
  split
  case isTrue hin => rw [State.memRead_valid s hin]
  case isFalse hout => rw [State.memRead_invalid s (Nat.not_lt.mp hout)]

/-! ### One byte -/

/-- One byte of `WriteSector` over the disk: that byte of the sector becomes its byte of the buffer's word. -/
theorem writeSectorByte_disk_read (sec : Nat) (s : State) {b : Nat} (hb : b < 512) (a : Nat) :
    (writeSectorByte sec buf s b).disk.read a =
      if a = sec * 512 + b then byteOfWord (bufferWord s buf (b / 4)) b else s.disk.read a := by
  have hdisk : (s.memRead (transferIndex buf b)).2.disk = s.disk := s.memRead_disk _
  rw [← memRead_transferIndex hbuf s hb, ← hdisk]
  exact Memory.read_write _ (sec * 512 + b) a _

/-- One byte of `WriteSector` over the diagnostics: a report when its word is out of range. -/
theorem writeSectorByte_diags (sec : Nat) (s : State) {b : Nat} (hb : b < 512) :
    (writeSectorByte sec buf s b).diags =
      if 4096 ≤ buf.toNat + b / 4 then List.replicate 1 (.memAddr (transferIndex buf b)) ++ s.diags else s.diags := by
  have hindex := transferIndex_toNat hbuf hb
  rw [writeSectorByte, State.putDiskByte_diags, ← hindex]
  split
  case isTrue hout => rw [State.memRead_invalid s hout]; rfl
  case isFalse hin => rw [State.memRead_valid s (Nat.not_le.mp hin)]

/-! ### The whole sector -/

/-- The first `n` bytes of `WriteSector` over the disk. -/
theorem foldl_writeSectorByte_disk_read (sec : Nat) (s : State) {n : Nat} (hn : n ≤ 512) (a : Nat) :
    ((List.range n).foldl (writeSectorByte sec buf) s).disk.read a =
      if sec * 512 ≤ a ∧ a < sec * 512 + n then
        byteOfWord (bufferWord s buf ((a - sec * 512) / 4)) (a - sec * 512)
      else s.disk.read a := by
  induction n with
  | zero => rw [if_neg (by omega)]; rfl
  | succ n ih =>
    have hdmem : ((List.range n).foldl (writeSectorByte sec buf) s).dmem = s.dmem :=
      foldl_keeps State.dmem _ (fun s b => writeSectorByte_dmem s sec buf b) _ s
    rw [List.range_succ, List.foldl_append, List.foldl_cons, List.foldl_nil, writeSectorByte_disk_read hbuf sec _ (by omega),
      bufferWord_congr hdmem, ih (by omega)]
    by_cases hlast : a = sec * 512 + n
    · subst hlast
      simp
    · rw [if_neg hlast]
      exact if_congr (by omega) rfl rfl

/-- `WriteSector` over the disk: the sector's bytes become the buffer's, every other byte reads as before. -/
theorem writeSector_disk_read (sec : Nat) (s : State) (a : Nat) :
    (writeSector sec buf s).disk.read a =
      if sec * 512 ≤ a ∧ a < sec * 512 + 512 then
        byteOfWord (bufferWord s buf ((a - sec * 512) / 4)) (a - sec * 512)
      else s.disk.read a :=
  foldl_writeSectorByte_disk_read hbuf sec s le_rfl a

/-- `WriteSector` over the bytes of the sector. -/
theorem writeSector_diskByte (sec : Nat) (s : State) {b : Nat} (hb : b < 512) :
    (writeSector sec buf s).diskByte sec b = byteOfWord (bufferWord s buf (b / 4)) b := by
  rw [State.diskByte, diskIndex, config_sectorBytes, writeSector_disk_read hbuf, if_pos (by omega), Nat.add_sub_cancel_left]

/-- `WriteSector` over the words of the sector. -/
theorem sectorWord_writeSector (sec : Nat) (s : State) {j : Nat} (hj : j < 128) :
    sectorWord (writeSector sec buf s) sec j = (bufferWord s buf j).toNat := by
  have hbyte {k : Nat} (hk : k < 4) :
      (writeSector sec buf s).diskByte sec (4 * j + k) = byteOfWord (bufferWord s buf j) (4 * j + k) := by
    have hword : (4 * j + k) / 4 = j := by omega
    rw [writeSector_diskByte hbuf sec s (by omega), hword]
  have h0 := hbyte (k := 0) (by decide)
  rw [Nat.add_zero] at h0
  rw [sectorWord, h0, hbyte (by decide), hbyte (by decide), hbyte (by decide)]
  exact sum_byteOfWord _ j

theorem writeSector_diags (sec : Nat) (s : State) : (writeSector sec buf s).diags = transferReports buf 1 ++ s.diags :=
  foldl_range_diags (fun s _ hb => writeSectorByte_diags hbuf sec s hb) s

end

/-- Settles O37: `sectorWord_writeSector` and `writeSector_disk_read` are the two clauses about the disk,
`writeSector_diags` the reports; the rest no byte of the transfer touches. -/
theorem writeSectorNetEffect : Obligations.WriteSectorNetEffect := by
  unfold Obligations.WriteSectorNetEffect
  intro s sec buf _ hbuf
  refine ⟨fun j hj => ?_, fun a ha => ?_, fun a => by rw [writeSector_dmem], writeSector_reg s sec buf,
    writeSector_pc s sec buf, fun a => by rw [writeSector_mon], ⟨writeSector_isr s sec buf, writeSector_halted s sec buf⟩,
    writeSector_ioAt s sec buf, writeSector_diags hbuf sec s⟩
  · rw [sectorWord_writeSector hbuf sec s hj, bufferWord]
    split <;> rfl
  · rw [writeSector_disk_read hbuf, if_neg (by omega)]

end Sys2Proof.Machine
end

section
/-! PROOFS. The invariant over the shared operations: each operation keeps it, under the condition its users meet. -/

namespace Sys2Proof.Machine

namespace State.Inv

variable {s : State} (h : s.Inv)
include h

/-! ### Setters that touch no part of the invariant, or one part -/

theorem setPc (v : Pc) : (s.setPc v).Inv := { h with }

theorem setIsr (v : Bool) : (s.setIsr v).Inv := { h with }

theorem setHalted (v : Bool) : (s.setHalted v).Inv := { h with }

theorem setExtSched (v : List (Nat × Bool)) : (s.setExtSched v).Inv := { h with }

theorem setDiskRemaining {v : Nat} (hv : v ≤ 1024) : (s.setDiskRemaining v).Inv := { h with diskRange := hv }

theorem setDmem {m : Memory 32} (hm : m.wf config.dmemWords = true) : (s.setDmem m).Inv := { h with dmemWf := hm }

theorem setDisk {m : Memory 8} (hm : m.wf (config.diskSectors * config.sectorBytes) = true) : (s.setDisk m).Inv :=
  { h with diskWf := hm }

theorem setImem {m : Memory 48} (hm : m.wf 4096 = true) : (s.setImem m).Inv := { h with imemWf := hm }

theorem putDiskByte {sec b : Nat} (hsec : sec < 128) (hb : b < 512) (v : Byte) : (s.putDiskByte sec b v).Inv :=
  h.setDisk (s.putDiskByte_wf h.diskWf hsec hb v)

theorem putPixel {r c : Nat} (hr : r < 256) (hc : c < 256) (v : Byte) : (s.putPixel r c v).Inv :=
  { h with monWf := s.putPixel_wf h.monWf hr hc v }

theorem advance : s.advance.Inv := h.setPc _

/-! ### Registers -/

theorem writeReg (r : RegNum) (v : Word) : (s.writeReg r v).Inv := by
  unfold State.writeReg
  split
  case isTrue hr =>
    have hne : r.val ≠ 0 := by simp only [writableReg, decide_eq_true_eq] at hr; omega
    have h0 : (s.regs.set r.val v)[0] = 0 := (Vector.getElem_set_ne _ _ hne).trans h.reg0
    exact { h with reg0 := h0 }
  case isFalse => exact h

theorem writeAndAdvance (rd : RegNum) (v : Word) : (s.writeAndAdvance rd v).Inv := (h.writeReg rd v).advance

theorem branch (o : Operands) (cond : Bool) : (s.branch o cond).Inv := by
  unfold State.branch
  split
  · exact h.setPc _
  · exact h.advance

/-! ### The bank, the reports and data memory -/

/-- A device write keeps the invariant when its value is inside the slot's width (R29). -/
theorem ioPut {r : IoReg} {v : Word} (hv : v.toNat < 2 ^ r.width) : (s.ioPut r v).Inv := by
  refine { h with ioMasked := fun q => ?_ }
  rw [State.ioAt_ioPut]
  split
  case isTrue hq => rw [hq]; exact hv
  case isFalse => exact h.ioMasked q

/-- A report keeps the invariant when its condition in R220's table justifies it. -/
theorem report {d : Diagnostic} (hd : d.justified) : (s.report d).Inv :=
  { h with diagsJustified := List.forall_mem_cons.mpr ⟨hd, h.diagsJustified⟩ }

theorem memRead (a : Word) : (s.memRead a).2.Inv := by
  by_cases ha : a.toNat < config.dmemWords
  · rw [State.memRead_valid s ha]
    exact h
  · rw [State.memRead_invalid s (Nat.not_lt.mp ha)]
    exact h.report (Nat.not_lt.mp ha)

theorem memWrite (a v : Word) : (s.memWrite a v).Inv := by
  by_cases ha : a.toNat < config.dmemWords
  · rw [State.memWrite_valid s ha]
    exact h.setDmem (Memory.wf_write h.dmemWf ha v)
  · rw [State.memWrite_invalid s (Nat.not_lt.mp ha)]
    exact h.report (Nat.not_lt.mp ha)

theorem ioRead (i : Word) : (s.ioRead i).2.Inv := by
  obtain ⟨r, hindex, -⟩ | ⟨hout, -⟩ := IoReg.ofIndex_cases i.toNat
  · rw [State.ioRead_slot s hindex.symm]
    exact h
  · rw [State.ioRead_invalid s hout]
    exact h.report hout

theorem ioWrite (i v : Word) : (s.ioWrite i v).Inv := by
  obtain ⟨r, hindex, -⟩ | ⟨hout, -⟩ := IoReg.ofIndex_cases i.toNat
  · rw [State.ioWrite_slot s hindex.symm]
    split
    · exact h
    · refine h.ioPut ?_
      rw [and_maskOf_toNat v r.width_le]
      exact Nat.mod_lt _ (Nat.two_pow_pos _)
  · rw [State.ioWrite_invalid s hout]
    exact h.report hout

/-! ### Interrupt entry and return -/

theorem takeInterrupt : s.takeInterrupt.Inv := by
  refine ((h.ioPut ?_).setPc _).setIsr true
  rw [BitVec.toNat_setWidth_of_le (by decide)]
  exact s.pc.isLt

theorem returnFromInterrupt : s.returnFromInterrupt.Inv := (h.setPc _).setIsr false

end State.Inv

/-- Steps that each keep the invariant keep it over a list. -/
theorem foldl_inv {β : Type} {f : State → β → State} {l : List β} (hf : ∀ s, ∀ b ∈ l, s.Inv → (f s b).Inv) {s : State}
    (h : s.Inv) : (l.foldl f s).Inv := by
  induction l generalizing s with
  | nil => exact h
  | cons b rest ih =>
    exact ih (fun t c hc => hf t c (List.mem_cons_of_mem b hc)) (hf s b List.mem_cons_self h)

end Sys2Proof.Machine
end

section
/-! PROOFS. Every part of a cycle keeps the invariant: the devices, the steps between them and execute, and every
instruction. DiskSector and MonAddr need no justification, since the sector and the address fit their slots (R245, R260). -/

namespace Sys2Proof.Machine

/-! ### The devices -/

section
variable {s : State} (h : s.Inv)
include h

theorem tickClock_inv : (tickClock s).Inv := h.ioPut (BitVec.isLt _)

theorem tickTimer_inv : (tickTimer s).Inv := by
  unfold tickTimer
  split_ifs
  · exact (h.ioPut (by decide)).ioPut (by decide)
  · exact h.ioPut (BitVec.isLt _)
  · exact h

theorem sampleExternal_inv : (sampleExternal s).Inv := by
  unfold sampleExternal
  split
  · exact h.ioPut (by decide)
  · exact h

theorem tickDiskBusy_inv : (tickDiskBusy s).Inv := by
  have hcount : (s.setDiskRemaining (s.diskRemaining - 1)).Inv :=
    h.setDiskRemaining ((Nat.sub_le _ _).trans h.diskRange)
  unfold tickDiskBusy
  dsimp only
  split
  · exact ((hcount.ioPut (by decide)).ioPut (by decide)).ioPut (by decide)
  · exact hcount

theorem readSector_inv (sec : Nat) (buf : Word) : (readSector sec buf s).Inv :=
  foldl_inv (fun _ _ _ hs => (hs.memRead _).memWrite _ _) h

theorem writeSector_inv {sec : Nat} (hsec : sec < 128) (buf : Word) : (writeSector sec buf s).Inv :=
  foldl_inv (fun _ _ hb hs => (hs.memRead _).putDiskByte hsec (List.mem_range.mp hb) _) h

/-- An accepted command: the sector slot has seven bits, so no sector is out of range. -/
theorem acceptDisk_inv {transfer : Nat → Word → State → State}
    (ht : ∀ sec buf, sec < 128 → (transfer sec buf s).Inv) : (acceptDisk s transfer).Inv := by
  have hsec : (s.ioAt .disksector).toNat < 128 := h.ioMasked .disksector
  rw [acceptDisk_inRange hsec]
  exact ((ht _ _ hsec).ioPut (by decide)).setDiskRemaining le_rfl

theorem tickDiskReady_inv : (tickDiskReady s).Inv := by
  unfold tickDiskReady
  split_ifs with h0 h1 h2
  · exact h
  · exact acceptDisk_inv h fun sec buf _ => readSector_inv h sec buf
  · exact acceptDisk_inv h fun sec buf hsec => writeSector_inv h hsec buf
  · have hcmd : (s.ioAt .diskcmd).toNat < 4 := h.ioMasked .diskcmd
    have hthree : s.ioAt .diskcmd = 3 := by bv_omega
    exact h.report hthree

theorem tickDisk_inv : (tickDisk s).Inv := by
  rw [tickDisk_eq]
  split
  · exact tickDiskBusy_inv h
  · exact tickDiskReady_inv h

theorem dispatchInterrupt_inv : (dispatchInterrupt s).Inv := by
  unfold dispatchInterrupt
  split
  · exact h.takeInterrupt
  · exact h

/-- The pixel write: the address slot has sixteen bits, so no address is outside the buffer. -/
theorem writePixel_inv : (writePixel s).Inv := by
  have haddr : (s.ioAt .monitoraddr).toNat < 65536 := h.ioMasked .monitoraddr
  have hrow : (s.ioAt .monitoraddr).toNat / 256 < 256 := by omega
  rw [writePixel_inside s hrow]
  exact h.putPixel hrow (Nat.mod_lt _ (by decide)) _

theorem serviceMonitor_inv : (serviceMonitor s).Inv := by
  unfold serviceMonitor
  split
  · exact (writePixel_inv h).ioPut (by decide)
  · exact h

theorem devicePhase_inv : (devicePhase s).Inv :=
  serviceMonitor_inv (dispatchInterrupt_inv (tickDisk_inv (sampleExternal_inv (tickTimer_inv (tickClock_inv h)))))

/-! ### Fetch, decode, execute -/

/-- The cycle count and the trace grow together between the devices and the execute stage (R136). -/
theorem decodePhase_countCycle_inv (w : Slot) : (decodePhase w (countCycle s)).Inv := by
  have h0 : ((s.regs.set 1 (sext32 (fieldsOf w).imm1)).set 2 (sext32 (fieldsOf w).imm2))[0] = 0 := by simpa using h.reg0
  exact { h with reg0 := h0, traceCount := congrArg (· + 1) h.traceCount }

theorem executeState_inv : (executeState s).Inv := decodePhase_countCycle_inv (devicePhase_inv h) (fetchedWord s)

end

/-- Every instruction keeps the invariant. -/
theorem exec_inv {i : Instr} {s t : State} (h : s.Inv) (hexec : exec i s = .next t) : t.Inv := by
  cases i <;> injection hexec with hexec <;> subst hexec
  case add | sub | mac | and | or | xor | sll | sra | srl => exact h.writeAndAdvance _ _
  case beq | bne | blt | bgt | ble | bge => exact h.branch _ _
  case jal => exact (h.writeReg _ _).setPc _
  case lw => exact (h.memRead _).writeAndAdvance _ _
  case sw => exact (h.memWrite _ _).advance
  case reti => exact h.returnFromInterrupt
  case in_ => exact (h.ioRead _).writeAndAdvance _ _
  case out => exact (h.ioWrite _ _).advance
  case halt => exact h.setHalted true

/-- An opcode the decoder calls unsupported is 22 or more. -/
theorem unsupported_opcode_ge {w : Slot} {op : BitVec 8} (h : decode w = .unsupported op) : 22 ≤ op.toNat := by
  by_cases hrow : (opcodeOf w).toNat ≤ 21
  · obtain ⟨i, hi, -⟩ := instrOf_defined hrow (fieldsOf w)
    rw [decode_of_instrOf hi] at h
    cases h
  · rw [decode_of_none (instrOf_none (by omega) _)] at h
    injection h with h
    rw [← h]
    omega

/-- Settles O47: a halted step keeps the state; a running one keeps the invariant up to the execute stage and in it. -/
theorem stepKeepsInvariant : Obligations.StepKeepsInvariant := by
  unfold Obligations.StepKeepsInvariant
  intro s t h hstep
  cases hs : s.halted with
  | true =>
    rw [step_halted hs] at hstep
    injection hstep with hstep
    exact hstep ▸ h
  | false =>
    obtain ⟨i, -, hexec⟩ | ⟨op, hw, rfl⟩ := step_cases hs hstep
    · exact exec_inv (executeState_inv h) hexec
    · have hreported : (Diagnostic.opcode op).justified := unsupported_opcode_ge hw
      exact ((executeState_inv h).report hreported).advance

end Sys2Proof.Machine
end

section
/-! PROOFS. Reset (spec/70_reset_and_hazards.md R280) and launch (spec/00_scope.md R12). -/

namespace Sys2Proof.Machine

theorem reset_reg (r : RegNum) : State.reset.reg r = 0 := by
  unfold State.reg State.reset
  split
  · rfl
  · exact Vector.getElem_replicate _

theorem reset_ioAt (r : IoReg) : State.reset.ioAt r = 0 := Vector.getElem_replicate _

/-- Settles O45: the two banks are replicated zeros and the memories list nothing. -/
theorem resetStateIsAllZero : Obligations.ResetStateIsAllZero := by
  unfold Obligations.ResetStateIsAllZero
  exact ⟨reset_reg, rfl, rfl, rfl, reset_ioAt, rfl, rfl, fun _ => rfl, fun _ _ => rfl, fun _ _ => rfl, fun _ => rfl⟩

/-- Settles O46: zero is inside every width, and there is no cycle, no record and no report. -/
theorem resetSatisfiesInvariant : Obligations.ResetSatisfiesInvariant := by
  unfold Obligations.ResetSatisfiesInvariant
  obtain ⟨hdmem, hdisk, hmon, himem⟩ := reset_memories_wf
  exact {
    reg0 := Vector.getElem_replicate _
    ioMasked := fun r => by rw [reset_ioAt]; exact Nat.two_pow_pos _
    diskRange := Nat.zero_le _
    dmemWf := hdmem
    diskWf := hdisk
    monWf := hmon
    imemWf := himem
    traceCount := rfl
    diagsJustified := fun d hd => nomatch hd }

/-! ### Images -/

variable {w : Nat}

/-- A read after an image was written from address `a` on: the image's entry, or what was there. -/
theorem Memory.read_writeAll (vs : List (BitVec w)) (m : Memory w) (a b : Nat) :
    (m.writeAll a vs).read b = if a ≤ b ∧ b < a + vs.length then vs.getD (b - a) 0 else m.read b := by
  induction vs generalizing m a with
  | nil => rw [if_neg (by simp)]; rfl
  | cons v rest ih =>
    rw [Memory.writeAll, ih, Memory.read_write, List.length_cons]
    by_cases hfirst : b = a
    · subst hfirst
      simp
    · by_cases hin : a + 1 ≤ b ∧ b < a + 1 + rest.length
      · have hsucc : b - a = b - (a + 1) + 1 := by omega
        rw [if_pos hin, if_pos (by omega), hsucc, List.getD_cons_succ]
      · rw [if_neg hin, if_neg hfirst, if_neg (by omega)]

/-- A space of `n` units loaded with an image reads as the image, zero past its end (R12). -/
theorem read_image (n : Nat) (vs : List (BitVec w)) {a : Nat} (ha : a < n) :
    (Memory.writeAll [] 0 (vs.take n)).read a = vs.getD a 0 := by
  rw [Memory.read_writeAll, Memory.read_nil, Nat.sub_zero, List.length_take]
  by_cases hin : a < vs.length
  · rw [if_pos (by omega), List.getD_eq_getElem?_getD, List.getD_eq_getElem?_getD, List.getElem?_take_of_lt ha]
  · rw [if_neg (by omega), List.getD_eq_default _ _ (Nat.not_lt.mp hin)]

/-- A space of `n` units loaded with an image is canonical. -/
theorem image_wf (n : Nat) (vs : List (BitVec w)) : (Memory.writeAll [] 0 (vs.take n)).wf n = true :=
  Memory.wf_writeAll _ rfl (by rw [Nat.zero_add]; exact List.length_take_le n vs)

/-- Settles O48: launch is reset with three images loaded, each of which reads as supplied and is canonical. -/
theorem launchHoldsImages : Obligations.LaunchHoldsImages := by
  unfold Obligations.LaunchHoldsImages
  intro imem dmem disk sched
  have hreset : State.reset.Inv := resetSatisfiesInvariant
  exact ⟨(((hreset.setImem (image_wf _ imem)).setDmem (image_wf _ dmem)).setDisk (image_wf _ disk)).setExtSched sched,
    fun a => read_image 4096 imem, fun a => read_image 4096 dmem, fun a => read_image 65536 disk, rfl, rfl⟩

end Sys2Proof.Machine
end
